-- ==== Sys2Proof/Word.lean ====
section
/-!
DEFINITION. The byte of the store link, and the fixed sets of numbered slots: six ports (R75) and eight probes (R147),
with one record per slot kept as a structure of named fields.
-/

namespace Sys2Proof

/-- A byte of the store link. -/
abbrev Byte := BitVec 8

/-- The channel number of a message header, 0 to 7 (R161). -/
abbrev Channel := BitVec 3

/-- A port number, 1 to 6 (R75). -/
inductive PortId where
  | p1 | p2 | p3 | p4 | p5 | p6
  deriving DecidableEq, Repr

/-- A probe number, 1 to 8 (R147). -/
inductive ProbeId where
  | n1 | n2 | n3 | n4 | n5 | n6 | n7 | n8
  deriving DecidableEq, Repr

/-- The number of a port as the link writes it. -/
def PortId.number : PortId → Nat
  | .p1 => 1 | .p2 => 2 | .p3 => 3 | .p4 => 4 | .p5 => 5 | .p6 => 6

/-- The port a number names; none outside 1 to 6. -/
def PortId.ofNumber : Nat → Option PortId
  | 1 => some .p1 | 2 => some .p2 | 3 => some .p3 | 4 => some .p4 | 5 => some .p5 | 6 => some .p6
  | _ => none

/-- The ports in port order. -/
def PortId.all : List PortId := [.p1, .p2, .p3, .p4, .p5, .p6]

/-- The number of a probe, which is its address on the PROBE line (R142). -/
def ProbeId.number : ProbeId → Nat
  | .n1 => 1 | .n2 => 2 | .n3 => 3 | .n4 => 4 | .n5 => 5 | .n6 => 6 | .n7 => 7 | .n8 => 8

/-- The probe a number names; none outside 1 to 8. -/
def ProbeId.ofNumber : Nat → Option ProbeId
  | 1 => some .n1 | 2 => some .n2 | 3 => some .n3 | 4 => some .n4
  | 5 => some .n5 | 6 => some .n6 | 7 => some .n7 | 8 => some .n8
  | _ => none

/-- The probes in number order. -/
def ProbeId.all : List ProbeId := [.n1, .n2, .n3, .n4, .n5, .n6, .n7, .n8]

/-- One value for each port. -/
structure PerPort (α : Type) where
  (p1 p2 p3 p4 p5 p6 : α)
  deriving DecidableEq, Repr

/-- The value of a port. -/
def PerPort.get {α : Type} (t : PerPort α) : PortId → α
  | .p1 => t.p1 | .p2 => t.p2 | .p3 => t.p3 | .p4 => t.p4 | .p5 => t.p5 | .p6 => t.p6

/-- The table with one port's value replaced. -/
def PerPort.set {α : Type} (t : PerPort α) (p : PortId) (a : α) : PerPort α :=
  match p with
  | .p1 => { t with p1 := a } | .p2 => { t with p2 := a } | .p3 => { t with p3 := a }
  | .p4 => { t with p4 := a } | .p5 => { t with p5 := a } | .p6 => { t with p6 := a }

/-- The same function applied to every port's value. -/
def PerPort.map {α β : Type} (f : α → β) (t : PerPort α) : PerPort β :=
  ⟨f t.p1, f t.p2, f t.p3, f t.p4, f t.p5, f t.p6⟩

/-- The same value for every port. -/
def PerPort.replicate {α : Type} (a : α) : PerPort α := ⟨a, a, a, a, a, a⟩

/-- One value for each probe. -/
structure PerProbe (α : Type) where
  (n1 n2 n3 n4 n5 n6 n7 n8 : α)
  deriving DecidableEq, Repr

/-- The value of a probe. -/
def PerProbe.get {α : Type} (t : PerProbe α) : ProbeId → α
  | .n1 => t.n1 | .n2 => t.n2 | .n3 => t.n3 | .n4 => t.n4
  | .n5 => t.n5 | .n6 => t.n6 | .n7 => t.n7 | .n8 => t.n8

/-- The table with one probe's value replaced. -/
def PerProbe.set {α : Type} (t : PerProbe α) (n : ProbeId) (a : α) : PerProbe α :=
  match n with
  | .n1 => { t with n1 := a } | .n2 => { t with n2 := a } | .n3 => { t with n3 := a } | .n4 => { t with n4 := a }
  | .n5 => { t with n5 := a } | .n6 => { t with n6 := a } | .n7 => { t with n7 := a } | .n8 => { t with n8 := a }

/-- The same function applied to every probe's value. -/
def PerProbe.map {α β : Type} (f : α → β) (t : PerProbe α) : PerProbe β :=
  ⟨f t.n1, f t.n2, f t.n3, f t.n4, f t.n5, f t.n6, f t.n7, f t.n8⟩

/-- The same value for every probe. -/
def PerProbe.replicate {α : Type} (a : α) : PerProbe α := ⟨a, a, a, a, a, a, a, a⟩

end Sys2Proof
end

