-- ==== Sys2Proof/Config.lean ====
section
/-!
DEFINITION. What the part fixes (its capacities, R173, and its clock, R18), and the free values: the orders the spec
leaves open, each an opaque constant that no proof can see into.
-/

namespace Sys2Proof.Config

/-- The most strata a list holds (R20). -/
def strataCapacity : Nat := 32

/-- The most handles the resume list holds (R118). -/
def resumeCapacity : Nat := 4

/-- The most complete messages that wait in the receive queue (R166). -/
def queueCapacity : Nat := 2

/-- The most payload bytes of a long message (R161). -/
def maxCount : Nat := 1024

/-- The largest temperature the part stores (R1). -/
def maxTemp : Nat := 11000

/-- The largest 32-bit total, at which totals saturate (R17). -/
def maxTotal : Nat := 4294967295

/-- Crystal periods in a second (R18). -/
def second : Nat := 32768

/-- Crystal periods in a minute (R18). -/
def minute : Nat := 60 * second

/-- Crystal periods of the stall timer (R18). -/
def stallPeriods : Nat := 656

/-- Where the Hygiene Monitor's look at a report falls against the Charge Arbiter's work on it (R136, R139). -/
inductive LookOrder where
  /-- before the Arbiter acts on the report -/
  | beforeArbiter
  /-- after the Arbiter has acted, before it builds a deposit's answer -/
  | beforeAnswer
  /-- after the answer has been built -/
  | afterAnswer
  deriving DecidableEq, Repr, Inhabited

/-- FREE VALUE (safe: log entry 5): the order of the Charge Arbiter and the Hygiene Monitor on one report, asked for
only where R136 and R139 give a different outcome to each order. Applied to the state's counter of free choices. -/
opaque lookOrder : Nat → LookOrder

/-- FREE VALUE (safe: log entry 6): which of several events due inside the part is taken first on an empty command queue
(R21, R43, R74, R120 leave it open). Applied to the state's counter of free choices. -/
opaque eventPick : Nat → Nat

end Sys2Proof.Config
end

