-- ==== Sys2Proof/Syntax.lean ====
section
/-!
DEFINITION. The commands of the SC632: one constructor of `Instr` for each row of the opcode table. A link request carries
its message as received (R161): the channel, and P0 and P1 of a short message or the body of a long one, so that all the
checks of R167 belong to the command.
-/

namespace Sys2Proof

/-- The body of a long message as reception leaves it (R161, R164). -/
inductive LongBody where
  /-- the header alone, its count 0 or above 1 024, marked for ERR_LENGTH -/
  | marked (count : BitVec 16)
  /-- the payload bytes and the checksum that followed them -/
  | full (payload : List Byte) (checksum : BitVec 16)
  deriving DecidableEq, Repr

/-- What follows the ident in a message: P0 and P1, or a long body (R161). -/
inductive Content where
  | short (p0 p1 : Byte)
  | long (body : LongBody)
  deriving DecidableEq, Repr

/-- A complete message as the receive queue holds it: kind and channel of its ident, and what followed (R161, R166). -/
structure Message where
  kind : BitVec 5
  channel : Channel
  content : Content
  deriving DecidableEq, Repr

/-- The scope of a RESET request (R172). -/
inductive ResetScope where
  | grants | full
  deriving DecidableEq, Repr

/-- The commands of the part, one for each row of the opcode table. An expiry may be sent from outside whenever its timer
runs (DESIGN CHOICE, safe: log entry 2); one of a stopped timer changes nothing (DEDUCED, safe: log entry 28). -/
inductive Instr where
  /-- POWER_ON: supply and crystal are stable -/
  | powerOn
  /-- RESET_PIN_LOW: the RESET pin is taken low -/
  | resetPinLow
  /-- RESET_PIN_RELEASE: the RESET pin rises -/
  | resetPinRelease
  /-- RX_BYTE: a byte with a valid stop bit on RXD -/
  | rxByte (b : Byte)
  /-- RX_FRAMING_FAULT: a byte with a framing fault, or ten bit times of break (DEDUCED, safe: log entry 26) -/
  | rxFramingFault
  /-- STALL_EXPIRY: the stall timer runs out -/
  | stallExpiry
  /-- UNASSIGNED_KIND: a long message of kind 22 + k -/
  | unassignedKind (k : Fin 10) (ch : Channel) (body : LongBody)
  /-- IDENTIFY, kind 0 -/
  | identify (ch : Channel) (p0 p1 : Byte)
  /-- SET_MODE, kind 1 -/
  | setMode (ch : Channel) (p0 p1 : Byte)
  /-- SET_FORECAST, kind 2 -/
  | setForecast (ch : Channel) (p0 p1 : Byte)
  /-- SET_MAINS, kind 3 -/
  | setMains (ch : Channel) (p0 p1 : Byte)
  /-- SET_AMBIENT, kind 4 -/
  | setAmbient (ch : Channel) (p0 p1 : Byte)
  /-- DRAW, kind 5 -/
  | draw (ch : Channel) (p0 p1 : Byte)
  /-- KEEPALIVE, kind 6 -/
  | keepalive (ch : Channel) (p0 p1 : Byte)
  /-- RELEASE, kind 7 -/
  | release (ch : Channel) (p0 p1 : Byte)
  /-- REVOKE, kind 8 -/
  | revoke (ch : Channel) (p0 p1 : Byte)
  /-- SCAN, kind 9 -/
  | scan (ch : Channel) (p0 p1 : Byte)
  /-- RELOCK: PROBE_CLEAR, kind 10, whose action sum names relock -/
  | relock (ch : Channel) (p0 p1 : Byte)
  /-- CLEAR_MIN_MAX: PROBE_CLEAR, kind 10, whose action sum names clear min/max -/
  | clearMinMax (ch : Channel) (p0 p1 : Byte)
  /-- CLEAR_ALARM: PROBE_CLEAR, kind 10, whose action sum names clear alarm -/
  | clearAlarm (ch : Channel) (p0 p1 : Byte)
  /-- RESEED, kind 11 -/
  | reseed (ch : Channel) (p0 p1 : Byte)
  /-- NOTICES, kind 12 -/
  | notices (ch : Channel) (p0 p1 : Byte)
  /-- NOTICE_ENABLE, kind 13 -/
  | noticeEnable (ch : Channel) (p0 p1 : Byte)
  /-- RESET, kind 14 -/
  | reset (ch : Channel) (p0 p1 : Byte)
  /-- RESET_GRANTS_TAKES_EFFECT: the OK answer of a RESET of scope GRANTS has been sent (with no such RESET, no effect: DESIGN
  CHOICE, safe, log entry 16) -/
  | resetGrantsTakesEffect
  /-- RESET_FULL_TAKES_EFFECT: the OK answer of a RESET of scope FULL has been sent -/
  | resetFullTakesEffect
  /-- PROFILE, kind 15 -/
  | profile (ch : Channel) (p0 p1 : Byte)
  /-- CONFIGURE_STORE, kind 16 -/
  | configureStore (ch : Channel) (body : LongBody)
  /-- CONFIGURE_PORT, kind 17 -/
  | configurePort (ch : Channel) (body : LongBody)
  /-- CONFIGURE_PROBE, kind 18 -/
  | configureProbe (ch : Channel) (body : LongBody)
  /-- REQUEST_CHARGE, kind 19 -/
  | requestCharge (ch : Channel) (body : LongBody)
  /-- DEPOSIT, kind 20 -/
  | deposit (ch : Channel) (body : LongBody)
  /-- READ_STRATA: READ, kind 21, selector 0 -/
  | readStrata (ch : Channel) (body : LongBody)
  /-- READ_PORTS: READ, kind 21, selector 1 -/
  | readPorts (ch : Channel) (body : LongBody)
  /-- READ_GRANTS: READ, kind 21, selector 2 -/
  | readGrants (ch : Channel) (body : LongBody)
  /-- READ_PROBES: READ, kind 21, selector 3 -/
  | readProbes (ch : Channel) (body : LongBody)
  /-- READ_SUMMARY: READ, kind 21, selector 4 -/
  | readSummary (ch : Channel) (body : LongBody)
  /-- LOSS_INTERVAL_EXPIRY -/
  | lossIntervalExpiry
  /-- HYGIENE_MINUTE_EXPIRY -/
  | hygieneMinuteExpiry
  /-- LIVENESS_EXPIRY of the grant of a port -/
  | livenessExpiry (p : PortId)
  /-- MIN_RUN_EXPIRY of the NORMAL grant of a port -/
  | minRunExpiry (p : PortId)
  /-- SOLAR_IDLE_EXPIRY -/
  | solarIdleExpiry
  /-- HYGIENE_TIME_LIMIT_EXPIRY -/
  | hygieneTimeLimitExpiry
  /-- SCAN_INTERVAL_EXPIRY -/
  | scanIntervalExpiry
  /-- CONVERSION_TIMEOUT of the conversion in flight -/
  | conversionTimeout
  /-- PROBE_REPLY: a reply frame on the PROBE line, whether its check passes, its address and its reading (R142;
  DESIGN CHOICE, safe: log entry 23) -/
  | probeReply (checkPasses : Bool) (address : Nat) (reading : Int)
  /-- PROBE_CORRECTION: the Store Model takes the oldest correction sent to it -/
  | probeCorrection
  /-- LOCKOUT_HOLD_EXPIRY of a probe -/
  | lockoutHoldExpiry (n : ProbeId)
  /-- RATE_STRAP_CHANGE: the levels of the two strap inputs -/
  | rateStrapChange (rate1 rate0 : Bool)
  deriving DecidableEq, Repr

/-- The message a link request carries; none for a command that is no link request (kinds of R168). -/
def Instr.message : Instr → Option Message
  | .unassignedKind k ch b => some ⟨BitVec.ofNat 5 (22 + k.val), ch, .long b⟩
  | .identify ch p0 p1 => some ⟨0, ch, .short p0 p1⟩
  | .setMode ch p0 p1 => some ⟨1, ch, .short p0 p1⟩
  | .setForecast ch p0 p1 => some ⟨2, ch, .short p0 p1⟩
  | .setMains ch p0 p1 => some ⟨3, ch, .short p0 p1⟩
  | .setAmbient ch p0 p1 => some ⟨4, ch, .short p0 p1⟩
  | .draw ch p0 p1 => some ⟨5, ch, .short p0 p1⟩
  | .keepalive ch p0 p1 => some ⟨6, ch, .short p0 p1⟩
  | .release ch p0 p1 => some ⟨7, ch, .short p0 p1⟩
  | .revoke ch p0 p1 => some ⟨8, ch, .short p0 p1⟩
  | .scan ch p0 p1 => some ⟨9, ch, .short p0 p1⟩
  | .relock ch p0 p1 => some ⟨10, ch, .short p0 p1⟩
  | .clearMinMax ch p0 p1 => some ⟨10, ch, .short p0 p1⟩
  | .clearAlarm ch p0 p1 => some ⟨10, ch, .short p0 p1⟩
  | .reseed ch p0 p1 => some ⟨11, ch, .short p0 p1⟩
  | .notices ch p0 p1 => some ⟨12, ch, .short p0 p1⟩
  | .noticeEnable ch p0 p1 => some ⟨13, ch, .short p0 p1⟩
  | .reset ch p0 p1 => some ⟨14, ch, .short p0 p1⟩
  | .profile ch p0 p1 => some ⟨15, ch, .short p0 p1⟩
  | .configureStore ch b => some ⟨16, ch, .long b⟩
  | .configurePort ch b => some ⟨17, ch, .long b⟩
  | .configureProbe ch b => some ⟨18, ch, .long b⟩
  | .requestCharge ch b => some ⟨19, ch, .long b⟩
  | .deposit ch b => some ⟨20, ch, .long b⟩
  | .readStrata ch b => some ⟨21, ch, .long b⟩
  | .readPorts ch b => some ⟨21, ch, .long b⟩
  | .readGrants ch b => some ⟨21, ch, .long b⟩
  | .readProbes ch b => some ⟨21, ch, .long b⟩
  | .readSummary ch b => some ⟨21, ch, .long b⟩
  | .powerOn | .resetPinLow | .resetPinRelease | .rxByte _ | .rxFramingFault | .stallExpiry
  | .resetGrantsTakesEffect | .resetFullTakesEffect | .lossIntervalExpiry | .hygieneMinuteExpiry
  | .livenessExpiry _ | .minRunExpiry _ | .solarIdleExpiry | .hygieneTimeLimitExpiry | .scanIntervalExpiry
  | .conversionTimeout | .probeReply _ _ _ | .probeCorrection | .lockoutHoldExpiry _ | .rateStrapChange _ _ => none

end Sys2Proof
end

