-- ==== Sys2Proof/WellFormed.lean ====
section
/-!
DEFINITION. Which commands the spec's link can carry: a long body holds 1 to 1 024 payload bytes or is marked for a count
outside that range (R164), a PROBE_CLEAR row names its own action (R158), a READ row its own selector (R172).
-/

namespace Sys2Proof

/-- A long body as reception can leave it (R164). -/
def LongBody.wf : LongBody → Bool
  | .marked c => c.toNat == 0 || decide (Config.maxCount < c.toNat)
  | .full p _ => decide (1 ≤ p.length) && decide (p.length ≤ Config.maxCount)

/-- A message as reception can leave it: kinds 0 to 15 are short and 16 to 31 are long (R161). -/
def Message.wf (m : Message) : Bool :=
  match m.content with
  | .short _ _ => decide (m.kind.toNat < 16)
  | .long b => decide (16 ≤ m.kind.toNat) && b.wf

/-- The selector byte of a READ whose payload can be trusted to hold one (R168). -/
def LongBody.selector : LongBody → Option Byte
  | .full [b] _ => some b
  | _ => none

/-- The body of a READ row: its one payload byte is the row's selector. -/
def LongBody.selects (b : LongBody) (selector : Nat) : Bool :=
  b.wf && decide (b.selector = some (BitVec.ofNat 8 selector))

/-- The commands the spec admits. -/
def Instr.wf : Instr → Bool
  | .relock _ _ p1 => p1.getLsbD 0
  | .clearMinMax _ _ p1 => p1.getLsbD 1
  | .clearAlarm _ _ p1 => p1.getLsbD 2
  | .unassignedKind _ _ b | .configureStore _ b | .configurePort _ b | .configureProbe _ b
  | .requestCharge _ b | .deposit _ b => b.wf
  | .readStrata _ b => b.selects 0
  | .readPorts _ b => b.selects 1
  | .readGrants _ b => b.selects 2
  | .readProbes _ b => b.selects 3
  | .readSummary _ b => b.selects 4
  | .identify _ _ _ | .setMode _ _ _ | .setForecast _ _ _ | .setMains _ _ _ | .setAmbient _ _ _ | .draw _ _ _
  | .keepalive _ _ _ | .release _ _ _ | .revoke _ _ _ | .scan _ _ _ | .reseed _ _ _ | .notices _ _ _
  | .noticeEnable _ _ _ | .reset _ _ _ | .profile _ _ _
  | .powerOn | .resetPinLow | .resetPinRelease | .rxByte _ | .rxFramingFault | .stallExpiry
  | .resetGrantsTakesEffect | .resetFullTakesEffect | .lossIntervalExpiry | .hygieneMinuteExpiry
  | .livenessExpiry _ | .minRunExpiry _ | .solarIdleExpiry | .hygieneTimeLimitExpiry | .scanIntervalExpiry
  | .conversionTimeout | .probeReply _ _ _ | .probeCorrection | .lockoutHoldExpiry _ | .rateStrapChange _ _ => true

end Sys2Proof
end

