-- ==== Sys2Proof/Decode.lean ====
section
/-!
DEFINITION. What a message says (the command a complete message of the receive queue stands for, R168, R172), and the
opcode table's words: the table gives no row any bits, so no word spells a command.
-/

namespace Sys2Proof

/-- The command a word spells by the table's bits. No row of the table has bits, so there is none. -/
def decodeTableWord (_nbits _w : Nat) : Option Instr := none

/-- The PROBE_CLEAR row of an action sum: the first action it names in the order of R158; the row CLEAR_ALARM also
stands for the sums that name no action. All three rows carry out the whole message
(DEDUCED, safe: log entry 15). -/
def probeClearCommand (ch : Channel) (p0 p1 : Byte) : Instr :=
  if p1.getLsbD 0 then .relock ch p0 p1
  else if p1.getLsbD 1 then .clearMinMax ch p0 p1
  else .clearAlarm ch p0 p1

/-- The READ row of a body: by its selector (R172); a body without one of the five selectors fails a check of R167 in
any of the rows (DEDUCED, safe: log entry 15). -/
def readCommand (ch : Channel) (body : LongBody) : Instr :=
  if body.selector = some 1 then .readPorts ch body
  else if body.selector = some 2 then .readGrants ch body
  else if body.selector = some 3 then .readProbes ch body
  else if body.selector = some 4 then .readSummary ch body
  else .readStrata ch body

/-- The command of a short message, by its kind (R168). -/
def shortCommand (kind : Nat) (ch : Channel) (p0 p1 : Byte) : Option Instr :=
  match kind with
  | 0 => some (.identify ch p0 p1)
  | 1 => some (.setMode ch p0 p1)
  | 2 => some (.setForecast ch p0 p1)
  | 3 => some (.setMains ch p0 p1)
  | 4 => some (.setAmbient ch p0 p1)
  | 5 => some (.draw ch p0 p1)
  | 6 => some (.keepalive ch p0 p1)
  | 7 => some (.release ch p0 p1)
  | 8 => some (.revoke ch p0 p1)
  | 9 => some (.scan ch p0 p1)
  | 10 => some (probeClearCommand ch p0 p1)
  | 11 => some (.reseed ch p0 p1)
  | 12 => some (.notices ch p0 p1)
  | 13 => some (.noticeEnable ch p0 p1)
  | 14 => some (.reset ch p0 p1)
  | 15 => some (.profile ch p0 p1)
  | _ => none

/-- The command of a long message, by its kind (R168). -/
def longCommand (kind : Nat) (ch : Channel) (body : LongBody) : Option Instr :=
  match kind with
  | 16 => some (.configureStore ch body)
  | 17 => some (.configurePort ch body)
  | 18 => some (.configureProbe ch body)
  | 19 => some (.requestCharge ch body)
  | 20 => some (.deposit ch body)
  | 21 => some (readCommand ch body)
  | 22 => some (.unassignedKind 0 ch body)
  | 23 => some (.unassignedKind 1 ch body)
  | 24 => some (.unassignedKind 2 ch body)
  | 25 => some (.unassignedKind 3 ch body)
  | 26 => some (.unassignedKind 4 ch body)
  | 27 => some (.unassignedKind 5 ch body)
  | 28 => some (.unassignedKind 6 ch body)
  | 29 => some (.unassignedKind 7 ch body)
  | 30 => some (.unassignedKind 8 ch body)
  | 31 => some (.unassignedKind 9 ch body)
  | _ => none

/-- The command a complete message stands for; none for a message whose form is not its kind's, which reception never
leaves (R161, R164). -/
def Message.command (m : Message) : Option Instr :=
  match m.content with
  | .short p0 p1 => shortCommand m.kind.toNat m.channel p0 p1
  | .long body => longCommand m.kind.toNat m.channel body

end Sys2Proof
end

