-- ==== Sys2Proof/Machine/State.lean ====
section
/-!
DEFINITION. Everything the spec gives the SC632 as plain data: one record for each of its seven blocks (00_scope, "The
blocks"), the pins, and the queue of waiting commands; and the part as it stands after reset.
-/

namespace Sys2Proof.Machine

/-- A timer that may be stopped: the crystal periods left before it expires, none while it is stopped (R18). -/
abbrev Timer := Option Nat

/-- A stratum record (R19): volume in dL, temperature in centidegrees, age and dwell in minutes. -/
structure Stratum where
  volume : Nat
  temp : Nat
  age : Nat
  dwell : Nat
  deriving DecidableEq, Repr

/-- The store configuration record, its fields in the order of R178. -/
structure StoreConfig where
  volume : Nat
  initialTemp : Nat
  tMax : Nat
  hysteresis : Nat
  mergeBand : Nat
  minStratum : Nat
  mains : Nat
  ambient : Nat
  lossFactor : Nat
  lossInterval : Nat
  tUse : Nat
  tComfort : Nat
  comfortTarget : Nat
  minHotVolume : Nat
  productive : Nat
  solarIdle : Nat
  minRun : Nat
  tHyg : Nat
  requiredDwell : Nat
  hygieneInterval : Nat
  hygieneLimit : Nat
  hygieneFloor : Nat
  hygienePort : Nat
  auxFloor : Nat
  scanInterval : Nat
  deriving DecidableEq, Repr

/-- The Store Model while a store is configured: its configuration, the mode (HOLIDAY or RUNNING, R176), the stratum list
bottom first (R20), the mains and ambient temperatures it holds (R66), and its two timers, which run exactly then (R67,
R72). -/
structure Store where
  cfg : StoreConfig
  holiday : Bool
  strata : List Stratum
  mains : Nat
  ambient : Nat
  lossTimer : Nat
  minuteTimer : Nat
  deriving DecidableEq, Repr

/-- The store mode (R176). -/
inductive Mode where
  | unconfigured | running | holiday
  deriving DecidableEq, Repr

/-- A probe correction on its way to the Store Model: a height and a signed amount (R33). -/
structure Correction where
  height : Nat
  amount : Int
  deriving DecidableEq, Repr

/-- The must-take kinds (R76). -/
inductive MustTakeKind where
  | solar | stove
  deriving DecidableEq, Repr

/-- The auxiliary kinds (R76). -/
inductive AuxKind where
  | heatPump | boiler | immersion
  deriving DecidableEq, Repr

/-- What stands behind a port that is not NONE: a must-take kind, or an auxiliary kind with its rank (R75, R76). -/
inductive Source where
  | mustTake (kind : MustTakeKind)
  | auxiliary (kind : AuxKind) (rank : Nat)
  deriving DecidableEq, Repr

/-- How a port's heat enters the water, with the fields of that mode (R77). -/
inductive Entry where
  | coil (bottom top : Nat)
  | lance (maximum : Nat)
  | element (height : Nat)
  deriving DecidableEq, Repr

/-- The configuration fields of a port whose kind is not NONE (R75). -/
structure PortConfig where
  source : Source
  entry : Entry
  supplyCap : Nat
  liveness : Nat
  deriving DecidableEq, Repr

/-- The retirement reasons (R103). -/
inductive Reason where
  | completed | released | expired | revoked | overheat | outranked | satisfied | abandoned | mode | timedOut | resetGrants
  deriving DecidableEq, Repr

/-- A port's last end: the handle and reason of its grant retired most recently (R81). -/
structure LastEnd where
  handle : Byte
  reason : Reason
  deriving DecidableEq, Repr

/-- A port record (R75); a configuration of none is the kind NONE. -/
structure Port where
  config : Option PortConfig
  absorbed : Nat
  ungranted : Nat
  lastEnd : Option LastEnd
  deriving DecidableEq, Repr

/-- What only a NORMAL grant has: its budget, its min-run timer (none once it has run out), the suspend-pending mark, and
whether it is SUSPENDED (R88). -/
structure NormalGrant where
  budget : Nat
  minRun : Timer
  suspendPending : Bool
  suspended : Bool
  deriving DecidableEq, Repr

/-- The class of a grant with the state that class may take: only MUST_TAKE is ever HELD, only NORMAL ever SUSPENDED, and
HYGIENE is ACTIVE (R88). -/
inductive GrantClass where
  | mustTake (held : Bool)
  | normal (n : NormalGrant)
  | hygiene
  deriving DecidableEq, Repr

/-- A grant record (R88). Its port is the place it holds in the grant table. -/
structure Grant where
  handle : Byte
  cls : GrantClass
  delivered : Nat
  declaredSupply : Nat
  liveness : Nat
  deriving DecidableEq, Repr

/-- The Charge Arbiter: port table, grant table (at most one grant a port, R83), resume list top first (R118; each entry
names the port whose grant's handle stands there; DEDUCED, safe: log entry 20), solar-active and its idle timer (R113),
comfort emergency (R121), overheat (R124), forecast and must-take heat (R15). -/
structure Arbiter where
  ports : PerPort Port
  grants : PerPort (Option Grant)
  resume : List PortId
  solarActive : Bool
  solarIdle : Timer
  comfortEmergency : Bool
  overheat : Bool
  forecast : Nat
  mustTakeHeat : Nat
  deriving DecidableEq, Repr

/-- The hygiene states (R131). -/
inductive HygieneState where
  | clear | due | inProgress
  deriving DecidableEq, Repr

/-- The Hygiene Monitor: its state and its time-limit timer (R131). -/
structure Hygiene where
  state : HygieneState
  limit : Timer
  deriving DecidableEq, Repr

/-- The conversion in flight: its probe, the periods left on the 1 s timeout (R142), and whether its probe was reconfigured
meanwhile (R146). -/
structure Conversion where
  probe : ProbeId
  timeout : Nat
  reconfigured : Bool
  deriving DecidableEq, Repr

/-- The Probe Scanner: the cycle in flight is its conversion in flight, none while idle (R143), the rescan-pending mark
(R144) and the scan-interval timer. -/
structure Scanner where
  conversion : Option Conversion
  rescanPending : Bool
  interval : Timer
  deriving DecidableEq, Repr

/-- The alarm modes (R150). -/
inductive AlarmMode where
  | follow | latch
  deriving DecidableEq, Repr

/-- The configuration fields of a probe record (R147). -/
structure ProbeConfig where
  height : Nat
  enabled : Bool
  tolerance : Nat
  lockCount : Nat
  shift : Nat
  bound : Nat
  hold : Nat
  threshold : Nat
  alarmMode : AlarmMode
  deriving DecidableEq, Repr

/-- The probe states (R147). -/
inductive ProbeState where
  | off | seeking | locked | lockout | fault
  deriving DecidableEq, Repr

/-- A probe record (R147). -/
structure Probe where
  config : Option ProbeConfig
  state : ProbeState
  agree : Nat
  cumulative : Int
  limited : Nat
  silent : Nat
  last : Option Nat
  minimum : Option Nat
  maximum : Option Nat
  alarm : Bool
  holdTimer : Timer
  deriving DecidableEq, Repr

/-- The framing state of the Link Controller with the bytes it holds (R164). -/
inductive Framing where
  | idle
  /-- one to three header bytes, in the order they came -/
  | header (bytes : List Byte)
  /-- a good long header and the payload and checksum bytes so far -/
  | payload (kind : BitVec 5) (channel : Channel) (count : Nat) (bytes : List Byte)
  | hunt
  deriving DecidableEq, Repr

/-- The link bit rates (R161). -/
inductive BitRate where
  | r19200 | r57600 | r115200 | r230400
  deriving DecidableEq, Repr

/-- The Link Controller: framing state and stall timer (R164, R165), receive queue oldest first (R166), the RESET request
whose OK answer is being sent (R174), the bytes of the last answer on TXD (R169; DESIGN CHOICE, unsafe:
log entry 4), and the bit rate as last read (R161). -/
structure Link where
  framing : Framing
  stall : Timer
  queue : List Message
  resetPending : Option ResetScope
  txd : List Byte
  rate : BitRate
  deriving DecidableEq, Repr

/-- The Notice Register: the sixteen flags, the enable mask, and whether ATTN is driven low (R181). -/
structure NoticeRegister where
  flags : BitVec 16
  mask : BitVec 16
  attnLow : Bool
  deriving DecidableEq, Repr

/-- The input pins that hold a level: RESET, and the two RATE straps (00_scope, "Pins"). -/
structure Pins where
  resetLow : Bool
  rate1 : Bool
  rate0 : Bool
  deriving DecidableEq, Repr

/-- The whole machine. `corrections` are the Reconciler's corrections the Store Model has not yet taken, oldest first
(R154; DEDUCED, unsafe: log entry 13); `pending` is the queue of waiting commands, and `choices` counts the free choices
made so far (DESIGN CHOICE, safe: log entry 7). -/
structure State where
  store : Option Store
  corrections : List Correction
  arbiter : Arbiter
  hygiene : Hygiene
  scanner : Scanner
  probes : PerProbe Probe
  link : Link
  notices : NoticeRegister
  pins : Pins
  pending : List Instr
  choices : Nat
  deriving DecidableEq, Repr

/-- The part stops with no fault (DEDUCED, safe: log entry 25): no rule of the spec stops it, every error being an
answer status (R171), a notice (R181) or a discarded message (R164, R166). No constructor, so no command can raise one.
-/
inductive Fault where
  deriving DecidableEq, Repr

/-- Why a command has no meaning. -/
inductive Refusal where
  /-- raised by an arm of exec for a command that has no meaning yet, under its mnemonic; no arm raises it now. Safe: the
  model stops where the part goes on. -/
  | notModelled (mnemonic : String)
  deriving DecidableEq, Repr

/-- What a command answers. -/
abbrev Result := Host.Outcome State Fault Refusal

/-- A port after the port table is emptied: kind NONE, totals 0, last end absent (R87). -/
def Port.initial : Port := { config := none, absorbed := 0, ungranted := 0, lastEnd := none }

/-- The Charge Arbiter after power-on (R15, R87, R112, R113, R121, R128). -/
def Arbiter.initial : Arbiter :=
  { ports := .replicate .initial
    grants := .replicate none
    resume := []
    solarActive := false
    solarIdle := none
    comfortEmergency := false
    overheat := false
    forecast := 0
    mustTakeHeat := 0 }

/-- The Hygiene Monitor after power-on (R131). -/
def Hygiene.initial : Hygiene := { state := .clear, limit := none }

/-- The Probe Scanner after power-on (R160). -/
def Scanner.initial : Scanner := { conversion := none, rescanPending := false, interval := none }

/-- A probe record after power-on (R160). -/
def Probe.initial : Probe :=
  { config := none, state := .off, agree := 0, cumulative := 0, limited := 0, silent := 0
    last := none, minimum := none, maximum := none, alarm := false, holdTimer := none }

/-- The Notice Register after power-on: every flag clear, every bit of the mask set, ATTN released (R181). -/
def NoticeRegister.initial : NoticeRegister := { flags := 0, mask := BitVec.allOnes 16, attnLow := false }

/-- The bit rate the levels of RATE1 and RATE0 select (R161). -/
def BitRate.ofStraps : Bool → Bool → BitRate
  | false, false => .r19200
  | false, true => .r57600
  | true, false => .r115200
  | true, true => .r230400

/-- The machine right after power-on (R39, R112, R160, R174, R180, R181), the RESET pin high and both straps low (DESIGN
CHOICE, unsafe: log entry 8), nothing received and no command waiting. -/
def State.reset : State :=
  { store := none
    corrections := []
    arbiter := .initial
    hygiene := .initial
    scanner := .initial
    probes := .replicate .initial
    link :=
      { framing := .hunt
        stall := some Config.stallPeriods
        queue := []
        resetPending := none
        txd := []
        rate := .ofStraps false false }
    notices := .initial
    pins := { resetLow := false, rate1 := false, rate0 := false }
    pending := []
    choices := 0 }

/-- The store mode (R176): UNCONFIGURED exactly while no store is configured. -/
def State.mode (s : State) : Mode :=
  match s.store with
  | none => .unconfigured
  | some st => if st.holiday then .holiday else .running

end Sys2Proof.Machine
end

