-- ==== Sys2Proof/Machine/Arith.lean ====
section
/-!
DEFINITION. The arithmetic of chapter 1: the rounding words, the clamps, the conversions between heat units and
watt-hours, saturating totals, and the timers' counts.
-/

namespace Sys2Proof.Machine

/-- Round half up of n / d for figures that are never negative (00_scope, "Rounding words"). -/
def roundDiv (n d : Nat) : Nat := (2 * n + d) / (2 * d)

/-- Ceil of n / d. -/
def ceilDiv (n d : Nat) : Nat := (n + d - 1) / d

/-- Round half away from zero of n / d for a signed figure (R2). -/
def roundDivInt (n : Int) (d : Nat) : Int :=
  if 0 ≤ n then (roundDiv n.toNat d : Int) else -(roundDiv (-n).toNat d : Int)

/-- The clamp of a value into a range. -/
def clamp (lo hi n : Nat) : Nat := max lo (min n hi)

/-- The clamp of every stored temperature, 0 to 11 000 (R1). -/
def clampTemp (t : Nat) : Nat := min t Config.maxTemp

/-- The clamp of a temperature that a signed formula gives (R1, R2). -/
def clampTempInt (t : Int) : Nat := min t.toNat Config.maxTemp

/-- A reported energy in heat units: 860 to the watt-hour, exactly (R5). -/
def heatOfWh (wh : Nat) : Nat := wh * 860

/-- Heat that has happened, in watt-hours, rounded (R6). -/
def whHappened (hu : Nat) : Nat := roundDiv hu 860

/-- Room in watt-hours, by floor (R7). -/
def whRoom (hu : Nat) : Nat := hu / 860

/-- Need in watt-hours, by ceil (R7). -/
def whNeed (hu : Nat) : Nat := ceilDiv hu 860

/-- A total that saturates at 4 294 967 295 (R17). -/
def addTotal (a b : Nat) : Nat := min (a + b) Config.maxTotal

/-- A timer started or restarted with a duration in seconds (R18). -/
def seconds (n : Nat) : Timer := some (n * Config.second)

/-- A timer started or restarted with a duration in minutes (R18). -/
def minutes (n : Nat) : Timer := some (n * Config.minute)

/-- The min-run timer started with a minimum run in seconds: one of 0 has run out as soon as it is started (R18). -/
def startMinRun (n : Nat) : Timer := if n = 0 then none else seconds n

/-- The whole units left on a count of crystal periods: the units not yet passed (R18; DEDUCED, unsafe: log
entry 12). -/
def unitsLeft (unit periods : Nat) : Nat := ceilDiv periods unit

/-- The whole units left on a timer, 0 when it is stopped. -/
def timerLeft (unit : Nat) : Timer → Nat
  | none => 0
  | some n => unitsLeft unit n

end Sys2Proof.Machine
end

