-- ==== Sys2Proof/Machine/Flags.lean ====
section
/-!
DEFINITION. The notice flags and the ATTN line (R175, R181).
-/

namespace Sys2Proof.Machine

/-- The sixteen notice flags (R175). -/
inductive Notice where
  | grantEnded | solarChanged | overheatSet | overheatCleared | hygieneDue | hygieneDone | hygieneFailed | comfortLow
  | ungrantedHeat | forcedMerge | drawClamped | probeLockout | probeFault | probeAlarm | linkError | resumeDropped
  deriving DecidableEq, Repr

/-- The bit of a flag in the notice word (R175). -/
def Notice.bit : Notice → Nat
  | .grantEnded => 0 | .solarChanged => 1 | .overheatSet => 2 | .overheatCleared => 3
  | .hygieneDue => 4 | .hygieneDone => 5 | .hygieneFailed => 6 | .comfortLow => 7
  | .ungrantedHeat => 8 | .forcedMerge => 9 | .drawClamped => 10 | .probeLockout => 11
  | .probeFault => 12 | .probeAlarm => 13 | .linkError => 14 | .resumeDropped => 15

/-- The notice word with one flag alone. -/
def Notice.word (n : Notice) : BitVec 16 := BitVec.ofNat 16 (2 ^ n.bit)

/-- ATTN re-evaluated: low exactly when a flag is both set and enabled (R181). -/
def NoticeRegister.reevaluate (r : NoticeRegister) : NoticeRegister :=
  { r with attnLow := (r.flags &&& r.mask) != 0 }

/-- A flag set by a block that reports its transition (R181). -/
def NoticeRegister.raise (r : NoticeRegister) (n : Notice) : NoticeRegister :=
  ({ r with flags := r.flags ||| n.word } : NoticeRegister).reevaluate

/-- The flags of a clear mask cleared (R182). -/
def NoticeRegister.clear (r : NoticeRegister) (word : BitVec 16) : NoticeRegister :=
  ({ r with flags := r.flags &&& ~~~word } : NoticeRegister).reevaluate

/-- The enable mask replaced (R182). -/
def NoticeRegister.enable (r : NoticeRegister) (word : BitVec 16) : NoticeRegister :=
  ({ r with mask := word } : NoticeRegister).reevaluate

/-- A block reports a transition to the Notice Register (R181). -/
def State.raise (s : State) (n : Notice) : State := { s with notices := s.notices.raise n }

/-- A transition reported only where a condition holds. -/
def State.raiseIf (s : State) (c : Bool) (n : Notice) : State := if c then s.raise n else s

end Sys2Proof.Machine
end

