-- ==== Sys2Proof/Machine/Strata.lean ====
section
/-!
DEFINITION. The small steps on a stratum list (chapter 2): mixing, merge, split and removal as one cut, normalization,
making room, and the lookup at a height. Lists are bottom first.
-/

namespace Sys2Proof.Machine

/-- The volume of a list (R3). -/
def volumeOf (l : List Stratum) : Nat := (l.map (·.volume)).sum

/-- The heat content of a list, in heat units above 0 °C (R9). -/
def heatOf (l : List Stratum) : Nat := (l.map fun s => s.volume * s.temp).sum

/-- The largest age of a list, 0 for none. -/
def maxAge (l : List Stratum) : Nat := l.foldr (fun s a => max s.age a) 0

/-- The smallest dwell of a list, 0 for none. -/
def minDwell : List Stratum → Nat
  | [] => 0
  | s :: rest => rest.foldr (fun t d => min t.dwell d) s.dwell

/-- The mean temperature of the parts of a mix (R8). -/
def meanTemp (l : List Stratum) : Nat := roundDiv (heatOf l) (volumeOf l)

/-- The merge of two neighbours (R23). -/
def mergePair (a b : Stratum) : Stratum :=
  { volume := a.volume + b.volume
    temp := clampTemp (roundDiv (a.volume * a.temp + b.volume * b.temp) (a.volume + b.volume))
    age := max a.age b.age
    dwell := min a.dwell b.dwell }

/-- The list cut at a height: what lies below it and what lies above. A stratum that holds the height strictly inside is
split there with its fields kept (R24); removal from either end hands over one side of the cut (R25). -/
def cut : Nat → List Stratum → List Stratum × List Stratum
  | _, [] => ([], [])
  | h, s :: rest =>
    if h = 0 then ([], s :: rest)
    else if s.volume ≤ h then (s :: (cut (h - s.volume) rest).1, (cut (h - s.volume) rest).2)
    else ([{ s with volume := h }], { s with volume := s.volume - h } :: rest)

/-- The stratum whose span contains a height, the top one at or beyond the top; none for an empty list (R4). -/
def stratumAt : Nat → List Stratum → Option Stratum
  | _, [] => none
  | _, [s] => some s
  | h, s :: t :: rest => if h < s.volume then some s else stratumAt (h - s.volume) (t :: rest)

/-- The model temperature at a height (R4). -/
def tempAt (h : Nat) (l : List Stratum) : Nat :=
  match stratumAt h l with
  | some s => s.temp
  | none => 0

/-- The list with the stratum that contains a height, by R4, changed. -/
def changeAt (f : Stratum → Stratum) : Nat → List Stratum → List Stratum
  | _, [] => []
  | _, [s] => [f s]
  | h, s :: t :: rest => if h < s.volume then f s :: t :: rest else s :: changeAt f (h - s.volume) (t :: rest)

/-- The temperature of the bottom stratum; 0 for an empty list, which no store holds (DESIGN CHOICE, safe: log entry 24). -/
def bottomTemp : List Stratum → Nat
  | [] => 0
  | s :: _ => s.temp

/-- The temperature of the top stratum; 0 for an empty list, which no store holds (DESIGN CHOICE, safe: log entry 24). -/
def topTemp (l : List Stratum) : Nat :=
  match l.getLast? with
  | some s => s.temp
  | none => 0

/-- The first step of normalization: the lowest adjacent pair whose upper temperature less its lower one is at most the
merge band, merged; none when no pair qualifies (R27). -/
def mergeInBand (band : Nat) : List Stratum → Option (List Stratum)
  | a :: b :: rest =>
    if b.temp ≤ a.temp + band then some (mergePair a b :: rest)
    else (mergeInBand band (b :: rest)).map (a :: ·)
  | _ => none

/-- The magnitude of a difference of temperature. -/
def tempGap (a b : Stratum) : Nat := (a.temp - b.temp) + (b.temp - a.temp)

/-- The second step of normalization above a stratum that is not thin: the lowest thin stratum of the strata above it
merged with its neighbour of nearer temperature, the one above on a tie (R28). -/
def mergeThinAbove (minVolume : Nat) : Stratum → List Stratum → Option (List Stratum)
  | _, [] => none
  | below, [c] => if c.volume < minVolume then some [mergePair below c] else none
  | below, c :: d :: rest =>
    if c.volume < minVolume then
      if tempGap c d ≤ tempGap below c then some (below :: mergePair c d :: rest)
      else some (mergePair below c :: d :: rest)
    else (mergeThinAbove minVolume c (d :: rest)).map (below :: ·)

/-- The second step of normalization: the lowest thin stratum merged with a neighbour; none when nothing is thin or the
list holds one stratum (R28). -/
def mergeThin (minVolume : Nat) : List Stratum → Option (List Stratum)
  | a :: b :: rest =>
    if a.volume < minVolume then some (mergePair a b :: rest) else mergeThinAbove minVolume a (b :: rest)
  | _ => none

/-- One merge of normalization, none when it has ended: R27 first, and R28 only when R27 finds nothing. -/
def normalizeOnce (band minVolume : Nat) (l : List Stratum) : Option (List Stratum) :=
  match mergeInBand band l with
  | some m => some m
  | none => mergeThin minVolume l

/-- Normalization with a bound on its merges. -/
def normalizeUpTo (band minVolume : Nat) : Nat → List Stratum → List Stratum
  | 0, l => l
  | n + 1, l =>
    match normalizeOnce band minVolume l with
    | some m => normalizeUpTo band minVolume n m
    | none => l

/-- Normalization (R27 to R29). Each merge shortens the list by one, so it ends within as many merges as there are
strata. -/
def normalize (band minVolume : Nat) (l : List Stratum) : List Stratum := normalizeUpTo band minVolume l.length l

/-- The smallest difference, upper less lower, of the adjacent pairs of a list, none for fewer than two strata (R30). -/
def smallestRise : List Stratum → Option Int
  | a :: b :: rest =>
    match smallestRise (b :: rest) with
    | some r => some (min ((b.temp : Int) - a.temp) r)
    | none => some ((b.temp : Int) - a.temp)
  | _ => none

/-- The lowest adjacent pair with the given difference merged. -/
def mergeAtRise (rise : Int) : List Stratum → List Stratum
  | a :: b :: rest =>
    if (b.temp : Int) - a.temp = rise then mergePair a b :: rest else a :: mergeAtRise rise (b :: rest)
  | l => l

/-- One forced merge: of the adjacent pair with the smallest difference, the lowest on a tie (R30). -/
def forcedMerge (l : List Stratum) : List Stratum :=
  match smallestRise l with
  | some r => mergeAtRise r l
  | none => l

/-- Forced merges until the list holds at most `most` strata, with a bound on their number, and whether one was made. -/
def makeRoomUpTo (most : Nat) : Nat → List Stratum → List Stratum × Bool
  | 0, l => (l, false)
  | n + 1, l => if most < l.length then ((makeRoomUpTo most n (forcedMerge l)).1, true) else (l, false)

/-- Making room for n records, and whether a forced merge was made, which sets FORCED_MERGE (R30, R31). -/
def makeRoom (n : Nat) (l : List Stratum) : List Stratum × Bool :=
  makeRoomUpTo (Config.strataCapacity - n) l.length l

/-- A record inserted directly below the lowest stratum at least as warm as itself, or on top (R26, R50). -/
def insertByTemp (new : Stratum) : List Stratum → List Stratum
  | [] => [new]
  | s :: rest => if new.temp ≤ s.temp then new :: s :: rest else s :: insertByTemp new rest

/-- The strata above a given base that reach above the hygiene floor (R14). -/
def trackedFrom (floor : Nat) : Nat → List Stratum → List Stratum
  | _, [] => []
  | base, s :: rest =>
    if floor < base + s.volume then s :: trackedFrom floor (base + s.volume) rest
    else trackedFrom floor (base + s.volume) rest

/-- The tracked strata of a list (R14, R129). -/
def tracked (floor : Nat) (l : List Stratum) : List Stratum := trackedFrom floor 0 l

end Sys2Proof.Machine
end

