-- ==== Sys2Proof/Machine/Summaries.lean ====
section
/-!
DEFINITION. The store summaries of section 1.5 and the sums the Charge Arbiter makes of them, each worked out from the
list when it is asked for (R10).
-/

namespace Sys2Proof.Machine

/-- Heat units by which the strata of a list fall short of a temperature. -/
def shortfall (target : Nat) (l : List Stratum) : Nat := (l.map fun s => s.volume * (target - s.temp)).sum

/-- Headroom H in Wh (R11). -/
def Store.headroom (st : Store) : Nat := whRoom (shortfall st.cfg.tMax st.strata)

/-- Hot volume in dL (R12). -/
def Store.hotVolume (st : Store) : Nat := volumeOf (st.strata.filter fun s => decide (st.cfg.tUse ≤ s.temp))

/-- Heat units by which the first `w` dL of a list, taken from its head, fall short of a temperature (R13). -/
def shortfallWithin (target : Nat) : Nat → List Stratum → Nat
  | _, [] => 0
  | w, s :: rest => min s.volume w * (target - s.temp) + shortfallWithin target (w - s.volume) rest

/-- Comfort need C in Wh: over the top W dL, and 0 in HOLIDAY (R13). -/
def Store.comfortNeed (st : Store) : Nat :=
  if st.holiday then 0 else whNeed (shortfallWithin st.cfg.tComfort st.cfg.comfortTarget st.strata.reverse)

/-- The tracked strata of the store (R14). -/
def Store.trackedStrata (st : Store) : List Stratum := tracked st.cfg.hygieneFloor st.strata

/-- Hygiene need in Wh (R14). -/
def Store.hygieneNeed (st : Store) : Nat := whNeed (shortfall (st.cfg.tHyg + 100) st.trackedStrata)

/-- Every tracked stratum is clean: its age is 0 (R130). -/
def Store.clean (st : Store) : Bool := st.trackedStrata.all fun s => s.age == 0

/-- Some tracked stratum is overdue: its age is at least the hygiene interval (R130). -/
def Store.overdue (st : Store) : Bool := st.trackedStrata.any fun s => decide (st.cfg.hygieneInterval ≤ s.age)

/-- The solar reserve R in Wh (R15). -/
def Arbiter.solarReserve (a : Arbiter) : Nat := a.forecast - a.mustTakeHeat

/-- The room term of a NORMAL grant (R16). -/
def roomTerm (st : Store) (a : Arbiter) : Nat :=
  if a.comfortEmergency then st.headroom else st.headroom - a.solarReserve

/-- What a grant holds back of the comfort need: the remaining budget of a NORMAL grant, and nothing else (R95). -/
def Grant.heldBack (g : Grant) : Nat :=
  match g.cls with
  | .normal n => n.budget - g.delivered
  | .mustTake _ => 0
  | .hygiene => 0

/-- What the grants of all ports but one hold back of the comfort need (R95). -/
def Arbiter.heldBackByOthers (a : Arbiter) (p : PortId) : Nat :=
  ((PortId.all.filter (· ≠ p)).map fun q => ((a.grants.get q).map Grant.heldBack).getD 0).sum

/-- The free need of a request or resumption of a port (R95, R117). -/
def freeNeed (st : Store) (a : Arbiter) (p : PortId) : Nat := st.comfortNeed - a.heldBackByOthers p

/-- The allowance for a wanted energy: the smallest of the wanted Wh, the free need and the room term (R97). -/
def allowance (st : Store) (a : Arbiter) (p : PortId) (wanted : Nat) : Nat :=
  min wanted (min (freeNeed st a p) (roomTerm st a))

end Sys2Proof.Machine
end

