-- ==== Sys2Proof/Machine/StoreOps.lean ====
section
/-!
DEFINITION. The Store Model's operations on the stratum list (the table of section 2.2): each gives the list it leaves,
and, where it makes room, whether a forced merge was made.
-/

namespace Sys2Proof.Machine

/-- Normalization under the store's merge band and minimum stratum volume (R27 to R29). -/
def StoreConfig.normalize (cfg : StoreConfig) (l : List Stratum) : List Stratum :=
  Machine.normalize cfg.mergeBand cfg.minStratum l

/-- The parts of the strata inside a zone [bottom, top) (R46). -/
def zoneParts (bottom top : Nat) (l : List Stratum) : List Stratum := (cut (top - bottom) (cut bottom l).2).1

/-- The zone strata mixed into one record with the heat Q, its temperature capped at the supply temperature (R8, R47). -/
def mixZone (q supply : Nat) (zone : List Stratum) : Stratum :=
  { volume := volumeOf zone
    temp := clampTemp (min (roundDiv (heatOf zone + q) (volumeOf zone)) supply)
    age := maxAge zone
    dwell := minDwell zone }

/-- A coil deposit (R46, R47): nothing changes when the supply is no warmer than the zone mean, the list being
normal already (DEDUCED, safe: log entry 22); else room for 2 is made,
the list is split at both ends of the zone, and the zone is mixed with the heat. -/
def coilDeposit (cfg : StoreConfig) (bottom top q supply : Nat) (l : List Stratum) : List Stratum × Bool :=
  if supply ≤ meanTemp (zoneParts bottom top l) then (l, false)
  else
    let room := makeRoom 2 l
    let below := cut bottom room.1
    let zone := cut (top - bottom) below.2
    (cfg.normalize (below.1 ++ mixZone q supply zone.1 :: zone.2), room.2)

/-- A stratum heated by an element: round((V·T + Q) / V), capped at the supply temperature (R48). -/
def heatStratum (q supply : Nat) (s : Stratum) : Stratum :=
  { s with temp := clampTemp (min (roundDiv (s.volume * s.temp + q) s.volume) supply) }

/-- An element deposit (R48). -/
def elementDeposit (cfg : StoreConfig) (height q supply : Nat) (l : List Stratum) : List Stratum × Bool :=
  if supply ≤ tempAt height l then (l, false)
  else (cfg.normalize (changeAt (heatStratum q supply) height l), false)

/-- The transfer volume of a lance deposit: 0 when the supply is less than 100 above the return temperature, else
round(Q / (T_s - T_ret)) clamped to the lance maximum (R49). -/
def lanceVolume (maximum q supply : Nat) (l : List Stratum) : Nat :=
  if supply < bottomTemp l + 100 then 0 else min (roundDiv q (supply - bottomTemp l)) maximum

/-- A lance deposit (R49, R50): room for 1, the transfer volume off the bottom, and a new stratum of it at the supply
temperature below the first stratum as warm. -/
def lanceDeposit (cfg : StoreConfig) (maximum q supply : Nat) (l : List Stratum) : List Stratum × Bool :=
  let vIn := lanceVolume maximum q supply l
  if vIn = 0 then (l, false)
  else
    let room := makeRoom 1 l
    let parts := cut vIn room.1
    let new : Stratum := { volume := vIn, temp := clampTemp supply, age := maxAge parts.1, dwell := 0 }
    (cfg.normalize (insertByTemp new parts.2), room.2)

/-- A deposit by the port's entry mode (R45). -/
def depositList (cfg : StoreConfig) (entry : Entry) (q supply : Nat) (l : List Stratum) : List Stratum × Bool :=
  match entry with
  | .coil bottom top => coilDeposit cfg bottom top q supply l
  | .lance maximum => lanceDeposit cfg maximum q supply l
  | .element height => elementDeposit cfg height q supply l

/-- The absorbed Wh of a deposit of E Wh between two lists: the rise of the heat content, floored at 0, rounded to Wh and
capped at E (R6, R9, R51). -/
def absorbedWh (e : Nat) (before after : List Stratum) : Nat := min (whHappened (heatOf after - heatOf before)) e

/-- What a draw leaves and what it delivers. -/
structure DrawResult where
  strata : List Stratum
  forced : Bool
  mean : Nat
  energy : Nat

/-- A draw of 1 to V dL (R60, R61): room for 1, the volume off the top, as much mains water in at the bottom, and the
delivered mean and energy from the parts removed. -/
def drawList (cfg : StoreConfig) (mains volume : Nat) (l : List Stratum) : DrawResult :=
  let room := makeRoom 1 l
  let parts := cut (volumeOf room.1 - volume) room.1
  let inlet : Stratum := { volume := volume, temp := mains, age := 0, dwell := 0 }
  { strata := cfg.normalize (inlet :: parts.1)
    forced := room.2
    mean := roundDiv (heatOf parts.2) volume
    energy := whHappened (heatOf parts.2 - volume * mains) }

/-- The drop of one loss step, round((T - T_amb) × k / 65 536) (R68). -/
def lossDrop (ambient k temp : Nat) : Int := roundDivInt (((temp : Int) - ambient) * k) 65536

/-- A stratum after a loss step (R68). -/
def coolStratum (ambient k : Nat) (s : Stratum) : Stratum :=
  { s with temp := clampTempInt ((s.temp : Int) - lossDrop ambient k s.temp) }

/-- A loss step (R68). -/
def lossStep (cfg : StoreConfig) (ambient : Nat) (l : List Stratum) : List Stratum :=
  cfg.normalize (l.map (coolStratum ambient cfg.lossFactor))

/-- A tracked stratum after a hygiene minute (R73). -/
def hygieneMinute (cfg : StoreConfig) (s : Stratum) : Stratum :=
  if cfg.tHyg ≤ s.temp then
    let dwell := min (s.dwell + 1) 255
    { s with dwell := dwell, age := if cfg.requiredDwell ≤ dwell then 0 else s.age }
  else { s with dwell := 0, age := min (s.age + 1) 65535 }

/-- The strata above a base after a hygiene minute: tracked ones change, the others keep their fields (R73). -/
def minuteFrom (cfg : StoreConfig) : Nat → List Stratum → List Stratum
  | _, [] => []
  | base, s :: rest =>
    (if cfg.hygieneFloor < base + s.volume then hygieneMinute cfg s else s) :: minuteFrom cfg (base + s.volume) rest

/-- A hygiene minute update (R73). -/
def minuteUpdate (cfg : StoreConfig) (l : List Stratum) : List Stratum := cfg.normalize (minuteFrom cfg 0 l)

/-- A probe correction: the amount added to the stratum at the height, clamped (R33). -/
def correctList (cfg : StoreConfig) (c : Correction) (l : List Stratum) : List Stratum :=
  cfg.normalize (changeAt (fun s => { s with temp := clampTempInt ((s.temp : Int) + c.amount) }) c.height l)

/-- A height and reading placed by height among usable probes already in height order; a probe at a height that is taken
is passed over, so that the lowest number is used (R35). -/
def placeReading (height reading : Nat) : List (Nat × Nat) → List (Nat × Nat)
  | [] => [(height, reading)]
  | r :: rest =>
    if height < r.1 then (height, reading) :: r :: rest
    else if height = r.1 then r :: rest
    else r :: placeReading height reading rest

/-- The rebuilt strata from a base up to V, split at the mid-heights; a stratum whose span is empty is not made (R35). -/
def rebuildFrom (volume age : Nat) : Nat → List (Nat × Nat) → List Stratum
  | _, [] => []
  | base, [r] => [{ volume := volume - base, temp := r.2, age := age, dwell := 0 }]
  | base, r :: t :: rest =>
    let top := (r.1 + t.1) / 2
    if base < top then
      { volume := top - base, temp := r.2, age := age, dwell := 0 } :: rebuildFrom volume age top (t :: rest)
    else rebuildFrom volume age base (t :: rest)

/-- The list a reseed builds from readings in height order (R35). -/
def reseedList (cfg : StoreConfig) (readings : List (Nat × Nat)) (old : List Stratum) : List Stratum :=
  cfg.normalize (rebuildFrom cfg.volume (maxAge old) 0 readings)

/-- The sample points of a PROFILE resolution code; none above 3 (R37). -/
def profilePoints : Nat → Option Nat
  | 0 => some 8 | 1 => some 16 | 2 => some 32 | 3 => some 64
  | _ => none

/-- The temperatures of a PROFILE of N points, bottom first (R37). -/
def profile (cfg : StoreConfig) (points : Nat) (l : List Stratum) : List Nat :=
  (List.range points).map fun i => tempAt ((2 * i + 1) * cfg.volume / (2 * points)) l

end Sys2Proof.Machine
end

