-- ==== Sys2Proof/Machine/Ops.lean ====
section
/-!
DEFINITION. The operations the blocks share: the ends of grants (R101), standing grants aside and resuming them (R114 to
R118), the comfort emergency (R121 to R123), overheat (R124 to R126), the Hygiene Monitor's look (R132 to R137), and what
both blocks do on a model-changed report (R22).
-/

namespace Sys2Proof.Machine

/-! ### Grants and ports -/

/-- The states a grant may be in (R88). -/
inductive GrantState where
  | active | held | suspended
  deriving DecidableEq, Repr

/-- The state of a grant, by its class (R88). -/
def Grant.state (g : Grant) : GrantState :=
  match g.cls with
  | .mustTake true => .held
  | .mustTake false => .active
  | .normal n => if n.suspended then .suspended else .active
  | .hygiene => .active

/-- What a NORMAL grant alone has; none for the other classes. -/
def Grant.normal? (g : Grant) : Option NormalGrant :=
  match g.cls with
  | .normal n => some n
  | .mustTake _ => none
  | .hygiene => none

/-- A grant of class MUST_TAKE. -/
def Grant.isMustTake (g : Grant) : Bool :=
  match g.cls with
  | .mustTake _ => true
  | .normal _ => false
  | .hygiene => false

/-- A grant of class HYGIENE. -/
def Grant.isHygiene (g : Grant) : Bool :=
  match g.cls with
  | .hygiene => true
  | .mustTake _ => false
  | .normal _ => false

/-- The unretired grant of a port (R83). -/
def Arbiter.grant (a : Arbiter) (p : PortId) : Option Grant := a.grants.get p

/-- The unretired grant of a port. -/
def State.grant (s : State) (p : PortId) : Option Grant := s.arbiter.grant p

/-- The record of a port. -/
def State.port (s : State) (p : PortId) : Port := s.arbiter.ports.get p

/-- The grant table with a port's grant changed. -/
def Arbiter.changeGrant (a : Arbiter) (p : PortId) (f : Grant → Grant) : Arbiter :=
  { a with grants := a.grants.set p ((a.grants.get p).map f) }

/-- The grant of a port changed. -/
def State.changeGrant (s : State) (p : PortId) (f : Grant → Grant) : State :=
  { s with arbiter := s.arbiter.changeGrant p f }

/-- A port record changed. -/
def State.changePort (s : State) (p : PortId) (f : Port → Port) : State :=
  { s with arbiter := { s.arbiter with ports := s.arbiter.ports.set p (f (s.arbiter.ports.get p)) } }

/-- The NORMAL part of a grant changed; a grant of another class is left as it is. -/
def Grant.changeNormal (f : NormalGrant → NormalGrant) (g : Grant) : Grant :=
  match g.cls with
  | .normal n => { g with cls := .normal (f n) }
  | .mustTake _ => g
  | .hygiene => g

/-- Some port holds an unretired grant. -/
def Arbiter.anyGrant (a : Arbiter) : Bool := PortId.all.any fun p => (a.grants.get p).isSome

/-- Some port holds an unretired MUST_TAKE grant. -/
def Arbiter.anyMustTake (a : Arbiter) : Bool :=
  PortId.all.any fun p => ((a.grants.get p).map Grant.isMustTake).getD false

/-! ### Retirement -/

/-- The retirements that set no GRANT_ENDED (R102). -/
def Reason.asPlanned : Reason → Bool
  | .released => true
  | .completed => true
  | .expired | .revoked | .overheat | .outranked | .satisfied | .abandoned | .mode | .timedOut | .resetGrants => false

/-- The Hygiene Monitor is told that the HYGIENE grant has ended other than COMPLETED (R137). -/
def State.hygieneRunFailed (s : State) : State :=
  if s.hygiene.state = .inProgress then
    ({ s with hygiene := { state := .due, limit := none } } : State).raise .hygieneFailed
  else s

/-- The grant table after a port's grant has left it: off the resume list, its end written, its record gone (R81, R101). -/
def Arbiter.endGrant (a : Arbiter) (p : PortId) (handle : Byte) (r : Reason) : Arbiter :=
  { a with
    resume := a.resume.filter (· ≠ p)
    ports := a.ports.set p { a.ports.get p with lastEnd := some { handle := handle, reason := r } }
    grants := a.grants.set p none }

/-- The retirement of a port's grant without the clearing of solar-active: the grant leaves the resume list and the table,
its timers and mark with it, the last end is written, the notices of R102 are set, and the Hygiene Monitor is told where
R101 says. A port without a grant is left as it is. -/
def State.retireHoldingSolar (s : State) (p : PortId) (r : Reason) : State :=
  match s.grant p with
  | none => s
  | some g =>
    let s := { s with arbiter := s.arbiter.endGrant p g.handle r }
    let s := s.raiseIf (!r.asPlanned) .grantEnded
    let s := s.raiseIf (decide (r = .abandoned)) .resumeDropped
    if g.isHygiene && decide (r ≠ .completed) then s.hygieneRunFailed else s

/-- The grants of a list of ports retired, in its order. -/
def State.retireAll (s : State) (r : Reason) (ps : List PortId) : State :=
  ps.foldl (fun s p => s.retireHoldingSolar p r) s

/-! ### Suspension and resumption -/

/-- The suspend-pending mark removed from every grant (R116, R122). -/
def State.removeMarks (s : State) : State :=
  { s with arbiter := { s.arbiter with
      grants := s.arbiter.grants.map (Option.map (Grant.changeNormal fun n => { n with suspendPending := false })) } }

/-- A port's grant pushed on top of the resume list; a full list first loses its bottom entry, retired ABANDONED (R118). -/
def State.pushResume (s : State) (p : PortId) : State :=
  let s :=
    if Config.resumeCapacity ≤ s.arbiter.resume.length then
      match s.arbiter.resume.getLast? with
      | some q => s.retireHoldingSolar q .abandoned
      | none => s
    else s
  { s with arbiter := { s.arbiter with resume := p :: s.arbiter.resume } }

/-- A NORMAL grant suspended: its mark removed, its state SUSPENDED, its handle pushed (R114, R115). -/
def State.suspend (s : State) (p : PortId) : State :=
  (s.changeGrant p (Grant.changeNormal fun n => { n with suspended := true, suspendPending := false })).pushResume p

/-- One port's ACTIVE NORMAL grant stood aside: suspended if its minimum run has run out, else marked (R114). -/
def State.standAsidePort (s : State) (p : PortId) : State :=
  match (s.grant p).bind Grant.normal? with
  | none => s
  | some n =>
    if n.suspended then s
    else if n.minRun = none then s.suspend p
    else s.changeGrant p (Grant.changeNormal fun n => { n with suspendPending := true })

/-- Every ACTIVE NORMAL grant stood aside, in port order (R114, R123). -/
def State.standAside (s : State) : State := PortId.all.foldl State.standAsidePort s

/-- A NORMAL grant made ACTIVE again with a fresh allowance: budget delivered + allowance, minimum run restarted (R117). -/
def Grant.resumed (fresh minRun : Nat) (g : Grant) : Grant :=
  g.changeNormal fun _ =>
    { budget := g.delivered + fresh, minRun := startMinRun minRun, suspendPending := false, suspended := false }

/-- A grant popped from the resume list: a fresh allowance of its remaining budget, without outranking; 0 retires it
SATISFIED, and otherwise it is ACTIVE again with budget delivered + allowance and its minimum run restarted (R117). -/
def State.resumeGrant (s : State) (p : PortId) : State :=
  match s.store, s.grant p with
  | some st, some g =>
    match g.normal? with
    | some n =>
      let a := allowance st s.arbiter p (n.budget - g.delivered)
      if a = 0 then s.retireHoldingSolar p .satisfied
      else s.changeGrant p (Grant.resumed a st.cfg.minRun)
    | none => s
  | _, _ => s

/-- Entries popped top first, each resumed before the next is popped (R116). -/
def State.popEntries : List PortId → State → State
  | [], s => s
  | p :: rest, s => State.popEntries rest (State.resumeGrant { s with arbiter := { s.arbiter with resume := rest } } p)

/-- The resume list popped to empty, top first (R116, R122). -/
def State.popResume (s : State) : State := State.popEntries s.arbiter.resume s

/-- Solar-active cleared, from set: idle timer stopped, SOLAR_CHANGED, marks removed, resume list popped (R113, R116). -/
def State.clearSolar (s : State) : State :=
  if s.arbiter.solarActive then
    let s := { s with arbiter := { s.arbiter with solarActive := false, solarIdle := none } }
    ((s.raise .solarChanged).removeMarks).popResume
  else s

/-- A productive must-take deposit: solar-active set with its effects, or kept, and the idle timer restarted (R54, R113,
R114). -/
def State.productiveDeposit (s : State) : State :=
  match s.store with
  | none => s
  | some st =>
    let idle := seconds st.cfg.solarIdle
    if s.arbiter.solarActive then { s with arbiter := { s.arbiter with solarIdle := idle } }
    else
      let s := { s with arbiter := { s.arbiter with solarActive := true, solarIdle := idle } }
      let s := s.raise .solarChanged
      if s.arbiter.comfortEmergency then s else s.standAside

/-- The retirement of a port's grant (R101): when it was the last MUST_TAKE grant, solar-active is cleared after it. -/
def State.retire (s : State) (p : PortId) (r : Reason) : State :=
  match s.grant p with
  | none => s
  | some g =>
    let s := s.retireHoldingSolar p r
    if g.isMustTake && !s.arbiter.anyMustTake then s.clearSolar else s

/-! ### The comfort emergency -/

/-- Entering the comfort emergency (R122). -/
def State.enterEmergency (s : State) : State :=
  let s := { s with arbiter := { s.arbiter with comfortEmergency := true } }
  ((s.raise .comfortLow).removeMarks).popResume

/-- Leaving the comfort emergency (R123). -/
def State.leaveEmergency (s : State) : State :=
  let s := { s with arbiter := { s.arbiter with comfortEmergency := false } }
  if s.arbiter.solarActive then s.standAside else s

/-- The comparison of the hot volume with the minimum hot volume, in RUNNING (R121). -/
def State.compareComfort (s : State) : State :=
  match s.store with
  | none => s
  | some st =>
    if st.holiday then s
    else if st.hotVolume < st.cfg.minHotVolume then
      if s.arbiter.comfortEmergency then s else s.enterEmergency
    else if s.arbiter.comfortEmergency then s.leaveEmergency else s

/-! ### Overheat -/

/-- Some probe's alarm flag is set (R124). -/
def State.anyAlarm (s : State) : Bool := ProbeId.all.any fun n => (s.probes.get n).alarm

/-- The set test of overheat (R124). -/
def State.overheatSetTest (s : State) (st : Store) : Bool :=
  decide (st.cfg.tMax ≤ topTemp st.strata) || s.anyAlarm

/-- The clear test of overheat (R124). -/
def State.overheatClearTest (s : State) (st : Store) : Bool :=
  decide (topTemp st.strata ≤ st.cfg.tMax - st.cfg.hysteresis) && !s.anyAlarm

/-- The MUST_TAKE grants all HELD, or all ACTIVE (R125, R126). -/
def Arbiter.holdMustTake (a : Arbiter) (held : Bool) : Arbiter :=
  { a with grants := a.grants.map (Option.map fun g =>
      match g.cls with
      | .mustTake _ => { g with cls := .mustTake held }
      | .normal _ => g
      | .hygiene => g) }

/-- The ports that hold a NORMAL or HYGIENE grant, in port order (R125). -/
def Arbiter.switchablePorts (a : Arbiter) : List PortId :=
  PortId.all.filter fun p => ((a.grants.get p).map fun g => !g.isMustTake).getD false

/-- Overheat set: NORMAL and HYGIENE grants retire OVERHEAT in port order, MUST_TAKE grants become HELD, and OVERHEAT_SET
is set (R125). -/
def State.setOverheat (s : State) : State :=
  let s := s.retireAll .overheat s.arbiter.switchablePorts
  let s := { s with arbiter := { s.arbiter.holdMustTake true with overheat := true } }
  s.raise .overheatSet

/-- Overheat cleared: HELD grants become ACTIVE and OVERHEAT_CLEARED is set (R126). -/
def State.clearOverheat (s : State) : State :=
  let s := { s with arbiter := { s.arbiter.holdMustTake false with overheat := false } }
  s.raise .overheatCleared

/-- The overheat tests applied (R124). -/
def State.testOverheat (s : State) : State :=
  match s.store with
  | none => s
  | some st =>
    if s.arbiter.overheat then
      if s.overheatClearTest st then s.clearOverheat else s
    else if s.overheatSetTest st then s.setOverheat else s

/-! ### The Hygiene Monitor's look -/

/-- The ports that hold a HYGIENE grant. -/
def Arbiter.hygienePorts (a : Arbiter) : List PortId :=
  PortId.all.filter fun p => ((a.grants.get p).map Grant.isHygiene).getD false

/-- The Hygiene Monitor's look at the list on a report, by its state (R132 to R134, R136). -/
def State.hygieneLook (s : State) : State :=
  match s.store with
  | none => s
  | some st =>
    match s.hygiene.state with
    | .clear =>
      if st.overdue then ({ s with hygiene := { s.hygiene with state := .due } } : State).raise .hygieneDue else s
    | .due =>
      if st.clean then ({ s with hygiene := { s.hygiene with state := .clear } } : State).raise .hygieneDone else s
    | .inProgress =>
      if st.clean then
        let s := ({ s with hygiene := { state := .clear, limit := none } } : State).raise .hygieneDone
        s.retireAll .completed s.arbiter.hygienePorts
      else s

/-! ### The model-changed report -/

/-- The Charge Arbiter on a report: the overheat tests first, then the comfort comparison (R127). -/
def State.arbiterReport (s : State) : State := s.testOverheat.compareComfort

/-- The look would complete a hygiene run: the one case in which the order of the two blocks can matter (R136, R139). -/
def State.lookCompletesRun (s : State) : Bool :=
  match s.store with
  | none => false
  | some st => decide (s.hygiene.state = .inProgress) && st.clean

/-- The report would set overheat (R124). -/
def State.reportSetsOverheat (s : State) : Bool :=
  match s.store with
  | none => false
  | some st => !s.arbiter.overheat && s.overheatSetTest st

/-- The state after one more free choice has been made. -/
def State.chosen (s : State) : State := { s with choices := s.choices + 1 }

/-- The model-changed report that ends an operation (R22): both blocks act on it, in the same
step (DESIGN CHOICE, unsafe: log entry 19). Where the report both completes a hygiene
run and sets overheat, which block acts first is a free value (R139; safe: log entry 5); elsewhere the order makes no
difference. -/
def State.modelChanged (s : State) : State :=
  if s.lookCompletesRun && s.reportSetsOverheat then
    match Config.lookOrder s.choices with
    | .beforeArbiter => s.chosen.hygieneLook.arbiterReport
    | .beforeAnswer => s.chosen.arbiterReport.hygieneLook
    | .afterAnswer => s.chosen.arbiterReport.hygieneLook
  else s.arbiterReport.hygieneLook

/-- The list replaced by what an operation leaves. -/
def State.withStrata (s : State) (st : Store) (l : List Stratum) : State :=
  { s with store := some { st with strata := l } }

/-- The correction operation of the Store Model on the oldest correction sent to it, with its report (R33, R154). With no
store there is no list, and the operation does not take place (R21). -/
def State.takeCorrection (s : State) : State :=
  match s.corrections with
  | [] => s
  | c :: rest =>
    let s := { s with corrections := rest }
    match s.store with
    | none => s
    | some st => (s.withStrata st (correctList st.cfg c st.strata)).modelChanged

/-- Several corrections taken, oldest first. -/
def State.takeCorrections : Nat → State → State
  | 0, s => s
  | n + 1, s => State.takeCorrections n s.takeCorrection

/-- Every correction sent to the Store Model taken (R155, R160). -/
def State.settleCorrections (s : State) : State := State.takeCorrections s.corrections.length s

end Sys2Proof.Machine
end

