-- ==== Sys2Proof/Machine/Operands.lean ====
section
/-!
DEFINITION. The fields of the store link: little-endian fields in payloads and bodies (R170), the codes of R171 and R172,
the payloads of the long requests, and answers as the owning blocks give them.
-/

namespace Sys2Proof.Machine

/-! ### Fields -/

/-- A two-byte field, low byte first. -/
def word16 (lo hi : Byte) : Nat := lo.toNat + 256 * hi.toNat

/-- The mask two parameter bytes carry, low byte first. -/
def mask16 (lo hi : Byte) : BitVec 16 := hi ++ lo

/-- The one-byte field of a payload at an offset. -/
def field8 (p : List Byte) (offset : Nat) : Nat := (p.getD offset 0).toNat

/-- The two-byte field of a payload at an offset. -/
def field16 (p : List Byte) (offset : Nat) : Nat := word16 (p.getD offset 0) (p.getD (offset + 1) 0)

/-- A figure sent in so many bytes, least significant first (R170). -/
def le : Nat → Nat → List Byte
  | 0, _ => []
  | w + 1, n => BitVec.ofNat 8 n :: le w (n / 256)

/-- A field sent in so many bytes, every bit set where it is absent (R170). -/
def leOrAbsent (w : Nat) : Option Nat → List Byte
  | some n => le w n
  | none => List.replicate w (BitVec.allOnes 8)

/-- A signed figure sent in two bytes, in two's complement (R170). -/
def leSigned16 (n : Int) : List Byte := le 2 (BitVec.ofInt 16 n).toNat

/-- The yes-or-no code (R172). -/
def yesNo (b : Bool) : Nat := if b then 1 else 0

/-! ### Codes of R172 -/

def GrantState.code : GrantState → Nat
  | .active => 1 | .held => 2 | .suspended => 3

def Reason.code : Reason → Nat
  | .completed => 16 | .released => 17 | .expired => 18 | .revoked => 19 | .overheat => 20 | .outranked => 21
  | .satisfied => 22 | .abandoned => 23 | .mode => 24 | .timedOut => 25 | .resetGrants => 26

def GrantClass.code : GrantClass → Nat
  | .normal _ => 1 | .hygiene => 2 | .mustTake _ => 3

def Source.code : Source → Nat
  | .mustTake .solar => 1 | .mustTake .stove => 2
  | .auxiliary .heatPump _ => 3 | .auxiliary .boiler _ => 4 | .auxiliary .immersion _ => 5

def Entry.code : Entry → Nat
  | .coil _ _ => 1 | .lance _ => 2 | .element _ => 3

def Mode.code : Mode → Nat
  | .unconfigured => 0 | .running => 1 | .holiday => 2

def HygieneState.code : HygieneState → Nat
  | .clear => 0 | .due => 1 | .inProgress => 2

def ProbeState.code : ProbeState → Nat
  | .off => 0 | .seeking => 1 | .locked => 2 | .lockout => 3 | .fault => 4

def AlarmMode.code : AlarmMode → Nat
  | .follow => 0 | .latch => 1

/-- The refusal reasons (R172); `belowFloor` is PROTECTED, a word Lean keeps for itself. -/
inductive RefusalReason where
  | notHygienePort | portBusy | noRoom | notDue | inHoliday | deferred | tooCool | noNeed | belowFloor
  deriving DecidableEq, Repr

def RefusalReason.code : RefusalReason → Nat
  | .notHygienePort => 1 | .portBusy => 2 | .noRoom => 3 | .notDue => 4 | .inHoliday => 5 | .deferred => 6
  | .tooCool => 7 | .noNeed => 8 | .belowFloor => 9

/-- The statuses of answers (R171). -/
inductive Status where
  | ok | refused | notConfigured | busy | errCheck | errLength | errKind | errChannel | errRange | stale | ended
  | ungranted | noPort | noGrant | noProbes
  deriving DecidableEq, Repr

def Status.code : Status → Nat
  | .ok => 0 | .refused => 1 | .notConfigured => 2 | .busy => 3 | .errCheck => 4 | .errLength => 5 | .errKind => 6
  | .errChannel => 7 | .errRange => 8 | .stale => 9 | .ended => 10 | .ungranted => 11 | .noPort => 12 | .noGrant => 13
  | .noProbes => 14

/-- What an owning block answers: status, value, and the body a long answer carries (R170). -/
structure Answer where
  status : Status
  value : Nat := 0
  body : List Byte := []
  deriving DecidableEq, Repr

/-- What a request does at its owning block: the state it leaves and the answer. -/
structure Reply where
  state : State
  answer : Answer

/-- A request that changes nothing and is answered. -/
def State.answer (s : State) (status : Status) (value : Nat := 0) (body : List Byte := []) : Reply :=
  { state := s, answer := { status := status, value := value, body := body } }

/-! ### Payloads of the long requests -/

/-- The fields of a DEPOSIT (R41). -/
structure DepositFields where
  handle : Byte
  energy : Nat
  supply : Nat
  deriving DecidableEq, Repr

def DepositFields.ofPayload (p : List Byte) : DepositFields :=
  { handle := p.getD 0 0, energy := field16 p 1, supply := field16 p 3 }

/-- The fields of a REQUEST_CHARGE (R90). -/
structure ChargeFields where
  cls : Nat
  wanted : Nat
  supply : Nat
  deriving DecidableEq, Repr

def ChargeFields.ofPayload (p : List Byte) : ChargeFields :=
  { cls := field8 p 0, wanted := field16 p 1, supply := field16 p 3 }

/-- The fields of a CONFIGURE_PORT, in the order of R82. -/
structure PortFields where
  port : Nat
  kind : Nat
  mode : Nat
  bottom : Nat
  top : Nat
  lanceMax : Nat
  height : Nat
  cap : Nat
  rank : Nat
  liveness : Nat
  deriving DecidableEq, Repr

def PortFields.ofPayload (p : List Byte) : PortFields :=
  { port := field8 p 0, kind := field8 p 1, mode := field8 p 2, bottom := field16 p 3, top := field16 p 5
    lanceMax := field16 p 7, height := field16 p 9, cap := field16 p 11, rank := field8 p 13
    liveness := field16 p 14 }

/-- The fields of a CONFIGURE_PROBE, in the order of R157. -/
structure ProbeFields where
  probe : Nat
  enabled : Nat
  height : Nat
  tolerance : Nat
  lockCount : Nat
  shift : Nat
  bound : Nat
  hold : Nat
  threshold : Nat
  alarmMode : Nat
  deriving DecidableEq, Repr

def ProbeFields.ofPayload (p : List Byte) : ProbeFields :=
  { probe := field8 p 0, enabled := field8 p 1, height := field16 p 2, tolerance := field16 p 4
    lockCount := field8 p 6, shift := field8 p 7, bound := field16 p 8, hold := field8 p 10
    threshold := field16 p 11, alarmMode := field8 p 13 }

/-- The store configuration record as sent, in the order of R178: 2 bytes a field, the hygiene port 1. -/
def StoreConfig.sent (p : List Byte) : StoreConfig :=
  { volume := field16 p 0, initialTemp := field16 p 2, tMax := field16 p 4, hysteresis := field16 p 6
    mergeBand := field16 p 8, minStratum := field16 p 10, mains := field16 p 12, ambient := field16 p 14
    lossFactor := field16 p 16, lossInterval := field16 p 18, tUse := field16 p 20, tComfort := field16 p 22
    comfortTarget := field16 p 24, minHotVolume := field16 p 26, productive := field16 p 28
    solarIdle := field16 p 30, minRun := field16 p 32, tHyg := field16 p 34, requiredDwell := field16 p 36
    hygieneInterval := field16 p 38, hygieneLimit := field16 p 40, hygieneFloor := field16 p 42
    hygienePort := field8 p 44, auxFloor := field16 p 45, scanInterval := field16 p 47 }

/-- A tuning field brought into range: 0xFFFF takes the default, any other value is clamped (R178). -/
def tune (default lo hi n : Nat) : Nat := if n = 0xFFFF then default else clamp lo hi n

/-- The record with its tuning fields brought into range; volume and geometric fields stand as sent (R178). -/
def StoreConfig.tuned (c : StoreConfig) : StoreConfig :=
  { c with
    initialTemp := clamp 0 9000 c.initialTemp
    tMax := tune 8000 6000 9500 c.tMax
    hysteresis := tune 300 100 1000 c.hysteresis
    mergeBand := tune 50 10 300 c.mergeBand
    minStratum := tune 20 10 500 c.minStratum
    mains := tune 1000 0 4000 c.mains
    ambient := tune 2000 0 4000 c.ambient
    lossFactor := clamp 0 2000 c.lossFactor
    lossInterval := tune 10 1 60 c.lossInterval
    tUse := tune 4500 3500 6500 c.tUse
    tComfort := tune 5000 3500 7000 c.tComfort
    productive := tune 20 1 1000 c.productive
    solarIdle := tune 600 60 3600 c.solarIdle
    minRun := tune 300 0 1800 c.minRun
    tHyg := tune 6000 5500 7500 c.tHyg
    requiredDwell := tune 30 1 120 c.requiredDwell
    hygieneInterval := tune 10080 60 20160 c.hygieneInterval
    hygieneLimit := tune 240 30 480 c.hygieneLimit
    scanInterval := tune 60 10 600 c.scanInterval }

/-- The geometric test of R178 on a tuned record. -/
def StoreConfig.fits (c : StoreConfig) : Bool :=
  decide (c.minStratum ≤ c.volume / 8) && decide (c.comfortTarget ≤ c.volume) && decide (c.hygieneFloor ≤ c.volume)
    && decide (c.auxFloor ≤ c.volume) && decide (c.minHotVolume ≤ c.comfortTarget) && decide (c.hygienePort ≤ 6)

/-! ### Bodies of the READ answers -/

/-- A stratum record of READ STRATA (R175). -/
def Stratum.record (s : Stratum) : List Byte := le 2 s.volume ++ le 2 s.temp ++ le 2 s.age ++ le 1 s.dwell

/-- The coil bottom and top, lance maximum and element height of an entry, absent where the mode has none (R75). -/
def Entry.fields : Entry → Option Nat × Option Nat × Option Nat × Option Nat
  | .coil bottom top => (some bottom, some top, none, none)
  | .lance maximum => (none, none, some maximum, none)
  | .element height => (none, none, none, some height)

/-- The rank of a source, absent for a must-take kind (R75). -/
def Source.rank : Source → Option Nat
  | .mustTake _ => none
  | .auxiliary _ r => some r

/-- A port's record of READ PORTS (R86), its current handle last (DEDUCED, unsafe: log entry 10). -/
def Port.record (p : Port) (g : Option Grant) : List Byte :=
  let f := p.config.map fun c => c.entry.fields
  le 1 ((p.config.map fun c => c.source.code).getD 0)
    ++ leOrAbsent 1 (p.config.map fun c => c.entry.code)
    ++ leOrAbsent 2 (f.bind (·.1)) ++ leOrAbsent 2 (f.bind (·.2.1))
    ++ leOrAbsent 2 (f.bind (·.2.2.1)) ++ leOrAbsent 2 (f.bind (·.2.2.2))
    ++ leOrAbsent 2 (p.config.map (·.supplyCap))
    ++ leOrAbsent 1 (p.config.bind fun c => c.source.rank)
    ++ leOrAbsent 2 (p.config.map (·.liveness))
    ++ le 4 p.absorbed ++ le 4 p.ungranted
    ++ leOrAbsent 1 (p.lastEnd.map (·.handle.toNat)) ++ leOrAbsent 1 (p.lastEnd.map (·.reason.code))
    ++ leOrAbsent 1 (g.map (·.handle.toNat))

/-- A grant's record of READ GRANTS (R110). -/
def Grant.record (g : Grant) : List Byte :=
  le 1 g.handle.toNat ++ le 1 g.cls.code ++ le 1 g.state.code ++ le 4 g.delivered ++ le 2 g.declaredSupply
    ++ le 2 (unitsLeft Config.second g.liveness)
    ++ leOrAbsent 2 (g.normal?.map (·.budget))
    ++ leOrAbsent 2 (g.normal?.map fun n => timerLeft Config.second n.minRun)
    ++ leOrAbsent 1 (g.normal?.map fun n => yesNo n.suspendPending)

/-- A probe's record of READ PROBES: the fields of R147 in its order, with the minutes left on its hold timer (R159;
DEDUCED, unsafe: log entry 11). -/
def Probe.record (p : Probe) : List Byte :=
  leOrAbsent 2 (p.config.map (·.height)) ++ leOrAbsent 1 (p.config.map fun c => yesNo c.enabled)
    ++ leOrAbsent 2 (p.config.map (·.tolerance)) ++ leOrAbsent 1 (p.config.map (·.lockCount))
    ++ leOrAbsent 1 (p.config.map (·.shift)) ++ leOrAbsent 2 (p.config.map (·.bound))
    ++ leOrAbsent 1 (p.config.map (·.hold)) ++ leOrAbsent 2 (p.config.map (·.threshold))
    ++ leOrAbsent 1 (p.config.map fun c => c.alarmMode.code)
    ++ le 1 p.state.code ++ le 1 p.agree ++ leSigned16 p.cumulative ++ le 1 p.limited ++ le 1 p.silent
    ++ leOrAbsent 2 p.last ++ leOrAbsent 2 p.minimum ++ leOrAbsent 2 p.maximum
    ++ le 1 (yesNo p.alarm) ++ le 2 (timerLeft Config.minute p.holdTimer)

end Sys2Proof.Machine
end

