-- ==== Sys2Proof/Machine/Link.lean ====
section
/-!
DEFINITION. The Link Controller: the checks (R162, R163), the framing machine (R164, R165), the receive queue (R166), the
checks and the taking of a message (R167 to R169), and the answers on TXD (R161, R170).
-/

namespace Sys2Proof.Machine

/-! ### The two checks -/

/-- One bit of the header check: polynomial x^8 + x^2 + x + 1, most significant bit first (R162). -/
def crc8Bit (c : BitVec 8) : BitVec 8 := if c.getLsbD 7 then (c <<< 1) ^^^ 0x07#8 else c <<< 1

/-- Some bits of the header check. -/
def crc8Bits : Nat → BitVec 8 → BitVec 8
  | 0, c => c
  | n + 1, c => crc8Bits n (crc8Bit c)

/-- The header check carried on by one byte (R162). -/
def crc8Byte (c : BitVec 8) (b : Byte) : BitVec 8 := crc8Bits 8 (c ^^^ b)

/-- The header check over some bytes, initial value 0 (R162). -/
def crc8 (bytes : List Byte) : BitVec 8 := bytes.foldl crc8Byte 0

/-- One bit of the payload checksum: polynomial x^16 + x^12 + x^5 + 1, most significant bit first (R163). -/
def crc16Bit (c : BitVec 16) : BitVec 16 := if c.getLsbD 15 then (c <<< 1) ^^^ 0x1021#16 else c <<< 1

/-- Some bits of the payload checksum. -/
def crc16Bits : Nat → BitVec 16 → BitVec 16
  | 0, c => c
  | n + 1, c => crc16Bits n (crc16Bit c)

/-- The payload checksum carried on by one byte (R163). -/
def crc16Byte (c : BitVec 16) (b : Byte) : BitVec 16 := crc16Bits 8 (c ^^^ (b ++ 0#8))

/-- The checksum of a payload, initial value 0xFFFF (R163). -/
def crc16 (payload : List Byte) : BitVec 16 := payload.foldl crc16Byte 0xFFFF#16

/-! ### Messages as bytes -/

/-- The ident byte: kind in bits 7 to 3, channel in bits 2 to 0 (R161, R175). -/
def ident (kind : BitVec 5) (ch : Channel) : Byte := kind ++ ch

/-- A header: three bytes and their check (R162). -/
def header (b0 b1 b2 : Byte) : List Byte := [b0, b1, b2, crc8 [b0, b1, b2]]

/-- The low and high bytes of a 16-bit figure. -/
def lowByte (n : BitVec 16) : Byte := n.setWidth 8
def highByte (n : BitVec 16) : Byte := (n >>> 8).setWidth 8

/-- A long message on the wire: header, payload and checksum, low byte first (R161, R163). -/
def longWire (id : Byte) (payload : List Byte) (checksum : BitVec 16) : List Byte :=
  header id (lowByte (BitVec.ofNat 16 payload.length)) (highByte (BitVec.ofNat 16 payload.length)) ++ payload
    ++ [lowByte checksum, highByte checksum]

/-! ### Kinds -/

/-- The channels a kind is allowed on (R168). -/
inductive Allowed where
  /-- channel 0 alone -/
  | supervisor
  /-- channels 1 to 6 -/
  | ports
  /-- channels 0 to 6 -/
  | any
  deriving DecidableEq, Repr

/-- A kind's entry in the kinds table (R168); the payload length of a short request is none. -/
structure KindEntry where
  allowed : Allowed
  payload : Option Nat
  longAnswer : Bool
  deriving DecidableEq, Repr

/-- The kinds table (R168); none for a kind of 22 to 31. -/
def kindEntry : Nat → Option KindEntry
  | 0 => some ⟨.any, none, true⟩
  | 1 => some ⟨.supervisor, none, false⟩
  | 2 => some ⟨.supervisor, none, false⟩
  | 3 => some ⟨.supervisor, none, false⟩
  | 4 => some ⟨.supervisor, none, false⟩
  | 5 => some ⟨.supervisor, none, true⟩
  | 6 => some ⟨.ports, none, false⟩
  | 7 => some ⟨.ports, none, false⟩
  | 8 => some ⟨.supervisor, none, false⟩
  | 9 => some ⟨.supervisor, none, false⟩
  | 10 => some ⟨.supervisor, none, false⟩
  | 11 => some ⟨.supervisor, none, false⟩
  | 12 => some ⟨.supervisor, none, true⟩
  | 13 => some ⟨.supervisor, none, false⟩
  | 14 => some ⟨.supervisor, none, false⟩
  | 15 => some ⟨.supervisor, none, true⟩
  | 16 => some ⟨.supervisor, some 49, false⟩
  | 17 => some ⟨.supervisor, some 16, false⟩
  | 18 => some ⟨.supervisor, some 14, false⟩
  | 19 => some ⟨.ports, some 5, true⟩
  | 20 => some ⟨.ports, some 5, true⟩
  | 21 => some ⟨.supervisor, some 1, true⟩
  | _ => none

/-- A channel is among those a kind is allowed on; channel 7 never is (R167, R168). -/
def Allowed.admits (a : Allowed) (ch : Channel) : Bool :=
  match a with
  | .supervisor => ch == 0
  | .ports => ch != 0 && ch != 7
  | .any => ch != 7

end Sys2Proof.Machine

namespace Sys2Proof

open Machine

/-- The bytes a message is received in: of one marked for its count, the header alone (R161, R164). -/
def Message.wire (m : Message) : List Byte :=
  match m.content with
  | .short p0 p1 => header (ident m.kind m.channel) p0 p1
  | .long (.marked count) => header (ident m.kind m.channel) (lowByte count) (highByte count)
  | .long (.full payload checksum) => longWire (ident m.kind m.channel) payload checksum

/-! ### The checks of R167 -/

/-- The header was marked at reception for a count of 0 or above 1 024 (check 1). -/
def Message.badCount (m : Message) : Bool :=
  match m.content with
  | .short _ _ => false
  | .long (.marked _) => true
  | .long (.full p _) => p.length == 0 || decide (Config.maxCount < p.length)

/-- The checksum of a long message does not match (check 2). -/
def Message.badChecksum (m : Message) : Bool :=
  match m.content with
  | .long (.full p c) => c != crc16 p
  | .long (.marked _) => false
  | .short _ _ => false

/-- A long request's count differs from its kind's payload length (check 5). -/
def Message.badLength (m : Message) (e : KindEntry) : Bool :=
  match m.content, e.payload with
  | .long (.full p _), some n => p.length != n
  | .long (.marked _), _ => true
  | .long (.full _ _), none => true
  | .short _ _, none => false
  | .short _ _, some _ => true

/-- The kind is READ and its selector is not one of the five (check 6). -/
def Message.badSelector (m : Message) : Bool :=
  match m.content with
  | .long (.full [b] _) => m.kind == 21 && decide (4 < b.toNat)
  | _ => false

/-- The first check of R167 that fails, as the status it is answered with; none when every check passes. -/
def Message.failedCheck (m : Message) : Option Status :=
  if m.badCount then some .errLength
  else if m.badChecksum then some .errCheck
  else match kindEntry m.kind.toNat with
    | none => some .errKind
    | some e =>
      if !e.allowed.admits m.channel then some .errChannel
      else if m.badLength e then some .errLength
      else if m.badSelector then some .errRange
      else none

/-! ### Answers -/

/-- The answer to a message is long: by its kind's entry, but short for a kind of 22 to 31 and on channel 7 (R168). -/
def Message.longAnswer (m : Message) : Bool :=
  match kindEntry m.kind.toNat with
  | none => false
  | some e => e.longAnswer && m.channel != 7

/-- The bytes of an answer on TXD, with the ident of its request (R161, R170). -/
def Message.answerWire (m : Message) (a : Answer) : List Byte :=
  let status := BitVec.ofNat 8 a.status.code
  let value := BitVec.ofNat 8 a.value
  if m.longAnswer then
    longWire (ident m.kind m.channel) (status :: value :: a.body) (crc16 (status :: value :: a.body))
  else header (ident m.kind m.channel) status value

end Sys2Proof

namespace Sys2Proof.Machine

/-- An answer sent (R169). -/
def State.send (s : State) (m : Message) (a : Answer) : State :=
  { s with link := { s.link with txd := m.answerWire a } }

/-! ### Reception -/

/-- A complete message offered to the receive queue: it joins at the back, or is discarded with LINK_ERROR when 2 wait
(R166). -/
def State.offer (s : State) (m : Message) : State :=
  if s.link.queue.length < Config.queueCapacity then
    { s with link := { s.link with queue := s.link.queue ++ [m] } }
  else s.raise .linkError

/-- The framing state after a byte, with the stall timer restarted, or stopped when it is IDLE (R165). -/
def State.framed (s : State) (f : Framing) : State :=
  { s with link := { s.link with
      framing := f
      stall := if f = .idle then none else some Config.stallPeriods } }

/-- The kind of an ident byte, and its channel (R161). -/
def identKind (b : Byte) : BitVec 5 := b.extractLsb' 3 5
def identChannel (b : Byte) : Channel := b.extractLsb' 0 3

/-- The fourth header byte (R164): a bad check discards the header with LINK_ERROR and enters HUNT; a good short header is
a message; a good long header enters PAYLOAD, or for a count of 0 or above 1 024 is a marked message and enters HUNT. -/
def State.headerDone (s : State) (b0 b1 b2 check : Byte) : State :=
  if check ≠ crc8 [b0, b1, b2] then (s.raise .linkError).framed .hunt
  else
    let kind := identKind b0
    let ch := identChannel b0
    if kind.toNat < 16 then (s.framed .idle).offer ⟨kind, ch, .short b1 b2⟩
    else
      let count := word16 b1 b2
      if count = 0 ∨ Config.maxCount < count then
        (s.framed .hunt).offer ⟨kind, ch, .long (.marked (mask16 b1 b2))⟩
      else s.framed (.payload kind ch count [])

/-- A payload or checksum byte; the last checksum byte completes the message (R164). -/
def State.payloadByte (s : State) (kind : BitVec 5) (ch : Channel) (count : Nat) (bytes : List Byte) : State :=
  if bytes.length < count + 2 then s.framed (.payload kind ch count bytes)
  else
    (s.framed .idle).offer
      ⟨kind, ch, .long (.full (bytes.take count) (mask16 (bytes.getD count 0) (bytes.getD (count + 1) 0)))⟩

/-- A byte that arrives, by the framing state (R164). -/
def State.receive (s : State) (b : Byte) : State :=
  match s.link.framing with
  | .idle => s.framed (.header [b])
  | .header [b0, b1, b2] => s.headerDone b0 b1 b2 b
  | .header bytes => s.framed (.header (bytes ++ [b]))
  | .payload kind ch count bytes => s.payloadByte kind ch count (bytes ++ [b])
  | .hunt => s.framed .hunt

/-- A byte with a framing fault (R164): outside HUNT any partial message is discarded and LINK_ERROR is set. -/
def State.receiveFault (s : State) : State :=
  match s.link.framing with
  | .hunt => s.framed .hunt
  | .idle => (s.raise .linkError).framed .hunt
  | .header _ => (s.raise .linkError).framed .hunt
  | .payload _ _ _ _ => (s.raise .linkError).framed .hunt

/-- The expiry of the stall timer (R164, R165). -/
def State.stallExpired (s : State) : State :=
  match s.link.framing with
  | .hunt => s.framed .idle
  | .idle => s.framed .idle
  | .header _ => (s.raise .linkError).framed .idle
  | .payload _ _ _ _ => (s.raise .linkError).framed .idle

/-! ### Taking a message -/

/-- The part is running: a held RESET pin holds it in reset, and nothing but the pins and power acts on it (R180; DEDUCED,
unsafe: log entry 18). -/
def State.whenRunning (s : State) (f : State → State) : State := if s.pins.resetLow then s else f s

/-- A reply's answer sent from the state it leaves (R169). -/
def Reply.deliver (r : Reply) (m : Message) : State := r.state.send m r.answer

/-- A message under way at the Link Controller: the checks of R167, then the owning block's reply, then the answer
(R169). -/
def State.handle (s : State) (m : Message) (owner : State → Reply) : State :=
  match m.failedCheck with
  | some status => s.send m { status := status }
  | none => (owner s).deliver m

/-- A link request (R169; DESIGN CHOICE, safe: log entry 3). While the OK answer of a RESET is being sent nothing is
taken (R174), and while another message waits at the front the message takes its place behind it (R166); else it is
taken, from the front of the queue where it stands there. -/
def State.request (s : State) (m : Message) (owner : State → Reply) : State :=
  s.whenRunning fun s =>
    if s.link.resetPending.isSome then s.offer m
    else match s.link.queue with
      | [] => s.handle m owner
      | q :: rest =>
        if q = m then State.handle { s with link := { s.link with queue := rest } } m owner else s.offer m

/-- A short request of a kind. -/
def State.shortRequest (s : State) (kind : Nat) (ch : Channel) (p0 p1 : Byte) (owner : State → Reply) : State :=
  s.request ⟨BitVec.ofNat 5 kind, ch, .short p0 p1⟩ owner

/-- A long request of a kind; its owner reads the payload. -/
def State.longRequest (s : State) (kind : Nat) (ch : Channel) (body : LongBody) (owner : List Byte → State → Reply) :
    State :=
  s.request ⟨BitVec.ofNat 5 kind, ch, .long body⟩ fun s =>
    match body with
    | .full p _ => owner p s
    | .marked _ => s.answer .errLength

/-- A request on a port's channel: the channel is the port number (R168). -/
def State.onPort (s : State) (ch : Channel) (f : PortId → State → Reply) : Reply :=
  match PortId.ofNumber ch.toNat with
  | some p => f p s
  | none => s.answer .errChannel

/-- A request that needs a store: answered NOT_CONFIGURED while there is none, before any other check of its
block (R176; DEDUCED, unsafe: log entry 21). -/
def State.onStore (s : State) (f : Store → State → Reply) : Reply :=
  match s.store with
  | some st => f st s
  | none => s.answer .notConfigured

end Sys2Proof.Machine
end

