-- ==== Sys2Proof/Machine/ChargeRequests.lean ====
section
/-!
DEFINITION. The requests the Charge Arbiter answers (chapters 3, 5 and 6) but for DEPOSIT: SET_FORECAST, KEEPALIVE, RELEASE,
REVOKE, CONFIGURE_PORT, REQUEST_CHARGE, the readings of its tables, and the expiries of its timers.
-/

namespace Sys2Proof.Machine

/-- A request on a port's channel: NOT_CONFIGURED without a store, NO_PORT while the port's kind is NONE (R76, R90, R105,
R106). -/
def State.onConfiguredPort (s : State) (ch : Channel) (f : PortId → PortConfig → Store → State → Reply) : Reply :=
  s.onPort ch fun p s => s.onStore fun st s =>
    match (s.port p).config with
    | none => s.answer .noPort
    | some c => f p c st s

/-- SET_FORECAST: F takes the value and M becomes 0 (R15). -/
def State.setForecastRequest (p0 p1 : Byte) (s : State) : Reply :=
  s.onStore fun _ s =>
    State.answer { s with arbiter := { s.arbiter with forecast := word16 p0 p1, mustTakeHeat := 0 } } .ok

/-! ### Handles: KEEPALIVE, RELEASE, REVOKE -/

/-- How a handle stands to a port (R42, R105): it names the port's unretired grant, or its last end, or neither. -/
inductive HandleMatch where
  | current (g : Grant)
  | lastEnd (r : Reason)
  | neither
  deriving DecidableEq, Repr

/-- What a handle names on a port. -/
def State.matchHandle (s : State) (p : PortId) (handle : Byte) : HandleMatch :=
  match (s.grant p).filter fun g => g.handle = handle with
  | some g => .current g
  | none =>
    match (s.port p).lastEnd.filter fun e => e.handle = handle with
    | some e => .lastEnd e.reason
    | none => .neither

/-- A grant's liveness timer restarted with its port's timeout (R79). -/
def State.restartLiveness (s : State) (p : PortId) (c : PortConfig) : State :=
  s.changeGrant p fun g => { g with liveness := c.liveness * Config.second }

/-- KEEPALIVE (R105). -/
def State.keepaliveRequest (ch : Channel) (p0 : Byte) (s : State) : Reply :=
  s.onConfiguredPort ch fun p c _ s =>
    match s.matchHandle p p0 with
    | .current g => (s.restartLiveness p c).answer .ok g.state.code
    | .lastEnd r => s.answer .ended r.code
    | .neither => s.answer .stale

/-- RELEASE (R106). -/
def State.releaseRequest (ch : Channel) (p0 : Byte) (s : State) : Reply :=
  s.onConfiguredPort ch fun p _ _ s =>
    match s.matchHandle p p0 with
    | .current _ => (s.retire p .released).answer .ok
    | .lastEnd r => s.answer .ended r.code
    | .neither => s.answer .stale

/-- REVOKE (R108). -/
def State.revokeRequest (p0 : Byte) (s : State) : Reply :=
  s.onStore fun _ s =>
    match PortId.ofNumber p0.toNat with
    | none => s.answer .errRange
    | some p =>
      match s.grant p with
      | none => s.answer .noGrant
      | some g => (s.retire p .revoked).answer .ok g.handle.toNat

/-! ### CONFIGURE_PORT -/

/-- The entry mode a code and its fields name, none for a code that is not of the three (R77, R82). -/
def PortFields.entry (f : PortFields) : Option Entry :=
  match f.mode with
  | 1 => some (.coil f.bottom f.top)
  | 2 => some (.lance (max 10 f.lanceMax))
  | 3 => some (.element f.height)
  | _ => none

/-- The source a kind code names with the rank sent, none for NONE and for a code outside the set (R172, R85). -/
def PortFields.source (f : PortFields) : Option Source :=
  match f.kind with
  | 1 => some (.mustTake .solar)
  | 2 => some (.mustTake .stove)
  | 3 => some (.auxiliary .heatPump (clamp 1 5 f.rank))
  | 4 => some (.auxiliary .boiler (clamp 1 5 f.rank))
  | 5 => some (.auxiliary .immersion (clamp 1 5 f.rank))
  | _ => none

/-- The entry modes a kind may take (R77). -/
def Source.allows : Source → Entry → Bool
  | .mustTake _, .coil _ _ => true
  | .mustTake _, .lance _ => true
  | .mustTake _, .element _ => false
  | .auxiliary .heatPump _, .coil _ _ => true
  | .auxiliary .heatPump _, .lance _ => false
  | .auxiliary .heatPump _, .element _ => false
  | .auxiliary .boiler _, .coil _ _ => true
  | .auxiliary .boiler _, .lance _ => false
  | .auxiliary .boiler _, .element _ => false
  | .auxiliary .immersion _, .coil _ _ => false
  | .auxiliary .immersion _, .lance _ => false
  | .auxiliary .immersion _, .element _ => true

/-- The heights and volumes of an entry lie in a store of volume V (check 4 of R82). -/
def Entry.fits (e : Entry) (volume : Nat) : Bool :=
  match e with
  | .coil bottom top => decide (top ≤ volume) && decide (bottom < top)
  | .lance maximum => decide (maximum ≤ volume / 4)
  | .element height => decide (height ≤ volume)

/-- An auxiliary source whose heat would enter below the aux floor (check 6 of R82, R84). -/
def Source.enterBelow (src : Source) (e : Entry) (auxFloor : Nat) : Bool :=
  match src, e with
  | .auxiliary _ _, .coil bottom _ => decide (bottom < auxFloor)
  | .auxiliary _ _, .element height => decide (height < auxFloor)
  | .auxiliary _ _, .lance _ => false
  | .mustTake _, _ => false

/-- The liveness timeout a CONFIGURE_PORT sets: 0 selects 120 (R85). -/
def livenessSent (n : Nat) : Nat := if n = 0 then 120 else clamp 10 600 n

/-- A CONFIGURE_PORT taken: the configuration fields set, totals and last end kept (R85). -/
def State.takePortConfig (s : State) (p : PortId) (c : Option PortConfig) : Reply :=
  (s.changePort p fun port => { port with config := c }).answer .ok

/-- CONFIGURE_PORT (R82 to R85). -/
def State.configurePortRequest (payload : List Byte) (s : State) : Reply :=
  s.onStore fun st s =>
    let f := PortFields.ofPayload payload
    match PortId.ofNumber f.port with
    | none => s.answer .errRange
    | some p =>
      if 5 < f.kind then s.answer .errRange
      else
        match f.source with
        | none => if (s.grant p).isSome then s.answer .busy else s.takePortConfig p none
        | some src =>
          match f.entry with
          | none => s.answer .errRange
          | some e =>
            if !src.allows e then s.answer .errRange
            else if !e.fits st.cfg.volume then s.answer .errRange
            else if (s.grant p).isSome then s.answer .busy
            else if src.enterBelow e st.cfg.auxFloor then s.answer .refused RefusalReason.belowFloor.code
            else s.takePortConfig p (some
              { source := src, entry := e, supplyCap := clampTemp f.cap, liveness := livenessSent f.liveness })

/-! ### REQUEST_CHARGE -/

/-- The handle of a port's next grant: the generation after its last end's, 0 when that is absent (R81, R89). -/
def nextHandle (p : PortId) (lastEnd : Option LastEnd) : Byte :=
  let generation : BitVec 4 :=
    match lastEnd with
    | some e => e.handle.extractLsb' 4 4 + 1
    | none => 0
  generation ++ BitVec.ofNat 4 p.number

/-- A refused or failed REQUEST_CHARGE: its body carries no handle, no state and no budget (R99). -/
def State.refuseCharge (s : State) (status : Status) (reason : Option RefusalReason) : Reply :=
  s.answer status ((reason.map RefusalReason.code).getD 0) (leOrAbsent 1 none ++ le 1 0 ++ le 2 0)

/-- A request granted: the new grant record, and the answer that carries it (R98, R99). -/
def State.grantCharge (s : State) (p : PortId) (c : PortConfig) (cls : GrantClass) (supply : Nat) : Reply :=
  let g : Grant :=
    { handle := nextHandle p (s.port p).lastEnd, cls := cls, delivered := 0, declaredSupply := supply
      liveness := c.liveness * Config.second }
  State.answer { s with arbiter := { s.arbiter with grants := s.arbiter.grants.set p (some g) } } .ok 0
    (le 1 g.handle.toNat ++ le 1 g.state.code ++ le 2 ((g.normal?.map (·.budget)).getD 0))

/-- The rank of the source of a port's NORMAL grant; none where the port holds none (R96). -/
def Arbiter.normalRank (a : Arbiter) (p : PortId) : Option Nat :=
  match (a.grants.get p).bind Grant.normal?, (a.ports.get p).config with
  | some _, some c => c.source.rank
  | _, _ => none

/-- The NORMAL grant to outrank next: of the ports with a greater rank number, the one of the greatest, lowest port on a
tie (R96). -/
def Arbiter.nextOutranked (a : Arbiter) (rank : Nat) : Option PortId :=
  (PortId.all.foldl
    (fun best p =>
      match a.normalRank p with
      | none => best
      | some r =>
        if r ≤ rank then best
        else match best with
          | none => some (p, r)
          | some (_, b) => if b < r then some (p, r) else best)
    (none : Option (PortId × Nat))).map (·.1)

/-- Outranking: lower-rank NORMAL grants retired one at a time until the free need covers the wanted Wh, with a bound on
their number (R96). -/
def State.outrankUpTo (st : Store) (p : PortId) (rank wanted : Nat) : Nat → State → State
  | 0, s => s
  | n + 1, s =>
    if wanted ≤ freeNeed st s.arbiter p then s
    else match s.arbiter.nextOutranked rank with
      | none => s
      | some q => State.outrankUpTo st p rank wanted n (s.retireHoldingSolar q .outranked)

/-- Outranking by a request of a port: at most six grants can be retired (R96). -/
def State.outrank (s : State) (st : Store) (p : PortId) (rank wanted : Nat) : State :=
  State.outrankUpTo st p rank wanted PortId.all.length s

/-- A NORMAL request that has passed R91: the four gates, outranking, the allowance (R94 to R97). -/
def State.requestNormal (s : State) (p : PortId) (c : PortConfig) (st : Store) (rank wanted supply : Nat) : Reply :=
  if s.arbiter.overheat then s.refuseCharge .refused (some .noRoom)
  else if st.holiday then s.refuseCharge .refused (some .inHoliday)
  else if s.arbiter.solarActive && !s.arbiter.comfortEmergency then s.refuseCharge .refused (some .deferred)
  else if supply < st.cfg.tComfort then s.refuseCharge .refused (some .tooCool)
  else
    let s := s.outrank st p rank wanted
    let a := allowance st s.arbiter p wanted
    if a = 0 then
      s.refuseCharge .refused (some (if freeNeed st s.arbiter p = 0 then .noNeed else .noRoom))
    else
      s.grantCharge p c
        (.normal { budget := a, minRun := startMinRun st.cfg.minRun, suspendPending := false, suspended := false })
        supply

/-- A HYGIENE request that has passed R91: granted exactly in DUE, with the Monitor's run begun (R93, R135). -/
def State.requestHygiene (s : State) (p : PortId) (c : PortConfig) (st : Store) (supply : Nat) : Reply :=
  if s.arbiter.overheat then s.refuseCharge .refused (some .noRoom)
  else if s.hygiene.state ≠ .due then s.refuseCharge .refused (some .notDue)
  else
    let s := { s with hygiene := { state := .inProgress, limit := minutes st.cfg.hygieneLimit } }
    s.grantCharge p c .hygiene supply

/-- REQUEST_CHARGE (R90 to R99). The class codes are 1 NORMAL and 2 HYGIENE (R172). -/
def State.requestChargeRequest (ch : Channel) (payload : List Byte) (s : State) : Reply :=
  s.onPort ch fun p s =>
    let f := ChargeFields.ofPayload payload
    let supply := clampTemp f.supply
    match s.store, (s.port p).config with
    | none, _ => s.refuseCharge .notConfigured none
    | some _, none => s.refuseCharge .noPort none
    | some st, some c =>
      if f.cls ≠ 1 ∧ f.cls ≠ 2 then s.refuseCharge .errRange none
      else
        match c.source with
        | .mustTake _ =>
          if f.cls = 2 then s.refuseCharge .refused (some .notHygienePort)
          else if (s.grant p).isSome then s.refuseCharge .refused (some .portBusy)
          else s.grantCharge p c (.mustTake s.arbiter.overheat) supply
        | .auxiliary _ rank =>
          if f.cls = 1 then
            if f.wanted = 0 then s.refuseCharge .errRange none
            else if (s.grant p).isSome then s.refuseCharge .refused (some .portBusy)
            else s.requestNormal p c st rank f.wanted supply
          else if st.cfg.hygienePort ≠ p.number then s.refuseCharge .refused (some .notHygienePort)
          else if (s.grant p).isSome then s.refuseCharge .refused (some .portBusy)
          else s.requestHygiene p c st supply

/-! ### Readings -/

/-- READ with the PORTS selector (R86). -/
def State.readPortsRequest (s : State) : Reply :=
  s.onStore fun _ s => s.answer .ok 0 (PortId.all.map fun p => (s.port p).record (s.grant p)).flatten

/-- The unretired grants in port order (R88). -/
def State.grantList (s : State) : List Grant := PortId.all.filterMap s.grant

/-- READ with the GRANTS selector (R110). -/
def State.readGrantsRequest (s : State) : Reply :=
  s.onStore fun _ s =>
    s.answer .ok 0
      (le 1 s.grantList.length ++ (s.grantList.map Grant.record).flatten
        ++ le 1 s.arbiter.resume.length
        ++ (s.arbiter.resume.map fun p => leOrAbsent 1 ((s.grant p).map (·.handle.toNat))).flatten
        ++ le 1 (yesNo s.arbiter.solarActive) ++ le 1 (yesNo s.arbiter.overheat)
        ++ le 1 (yesNo s.arbiter.comfortEmergency))

/-! ### Expiries -/

/-- The expiry of a min-run timer: a marked grant is suspended (R115). A timer that has run out does not expire. -/
def State.expireMinRun (s : State) (p : PortId) : State :=
  match (s.grant p).bind Grant.normal? with
  | none => s
  | some n =>
    if n.minRun = none then s
    else
      let s := s.changeGrant p (Grant.changeNormal fun n => { n with minRun := none })
      if n.suspendPending then s.suspend p else s

/-- The expiry of the solar idle timer; a stopped timer does not expire (R113, R116). -/
def State.expireSolarIdle (s : State) : State := if s.arbiter.solarIdle.isSome then s.clearSolar else s

/-- The expiry of the hygiene time limit; a stopped timer does not expire (R138). -/
def State.expireHygieneLimit (s : State) : State :=
  if s.hygiene.limit.isSome then s.retireAll .timedOut s.arbiter.hygienePorts else s

/-! ### The meanings -/

/-- SET_FORECAST, kind 2 (R15, R176). -/
def execSetForecast (ch : Channel) (p0 p1 : Byte) (s : State) : Result :=
  .next (s.shortRequest 2 ch p0 p1 (State.setForecastRequest p0 p1))

/-- KEEPALIVE, kind 6 (R105). -/
def execKeepalive (ch : Channel) (p0 p1 : Byte) (s : State) : Result :=
  .next (s.shortRequest 6 ch p0 p1 (State.keepaliveRequest ch p0))

/-- RELEASE, kind 7 (R106). -/
def execRelease (ch : Channel) (p0 p1 : Byte) (s : State) : Result :=
  .next (s.shortRequest 7 ch p0 p1 (State.releaseRequest ch p0))

/-- REVOKE, kind 8 (R108). -/
def execRevoke (ch : Channel) (p0 p1 : Byte) (s : State) : Result :=
  .next (s.shortRequest 8 ch p0 p1 (State.revokeRequest p0))

/-- CONFIGURE_PORT, kind 17 (R82). -/
def execConfigurePort (ch : Channel) (body : LongBody) (s : State) : Result :=
  .next (s.longRequest 17 ch body State.configurePortRequest)

/-- REQUEST_CHARGE, kind 19 (R90). -/
def execRequestCharge (ch : Channel) (body : LongBody) (s : State) : Result :=
  .next (s.longRequest 19 ch body (State.requestChargeRequest ch))

/-- LIVENESS_EXPIRY of a port's grant (R104). -/
def execLivenessExpiry (p : PortId) (s : State) : Result := .next (s.whenRunning fun s => s.retire p .expired)

/-- MIN_RUN_EXPIRY of a port's NORMAL grant (R115). -/
def execMinRunExpiry (p : PortId) (s : State) : Result := .next (s.whenRunning fun s => s.expireMinRun p)

/-- SOLAR_IDLE_EXPIRY (R113, R116). -/
def execSolarIdleExpiry (s : State) : Result := .next (s.whenRunning State.expireSolarIdle)

/-- HYGIENE_TIME_LIMIT_EXPIRY (R138). -/
def execHygieneTimeLimitExpiry (s : State) : Result := .next (s.whenRunning State.expireHygieneLimit)

end Sys2Proof.Machine
end

