-- ==== Sys2Proof/Machine/Deposits.lean ====
section
/-!
DEFINITION. DEPOSIT (chapter 3): the match, the Store Model's operation, the booking, the report, and the one answer.
-/

namespace Sys2Proof.Machine

/-- The body of a deposit answer (R57, R175). -/
def depositBody (outcome absorbed rejected remaining need : Nat) (hold : Bool) : List Byte :=
  le 1 outcome ++ le 2 absorbed ++ le 2 rejected ++ le 2 remaining ++ le 4 need ++ le 1 (yesNo hold)

/-- A deposit that is not applied (R41, R57). -/
def State.refuseDeposit (s : State) (status : Status) : Reply := s.answer status 0 (depositBody 0 0 0 0 0 false)

/-- The supply temperature a deposit is laid in at: clamped to the port's cap, and then to 11 000 (R45). -/
def PortConfig.supply (c : PortConfig) (sent : Nat) : Nat := clampTemp (min sent c.supplyCap)

/-- The Store Model's part of a deposit of E above 0: the list it leaves, FORCED_MERGE where room was made by force, and
the absorbed Wh (R45, R51). -/
def State.layIn (s : State) (c : PortConfig) (st : Store) (e sent : Nat) : State × Nat :=
  let d := depositList st.cfg c.entry (heatOfWh e) (c.supply sent) st.strata
  ((s.raiseIf d.2 .forcedMerge).withStrata st d.1, absorbedWh e st.strata d.1)

/-- A grant with absorbed Wh booked to it and its liveness timer restarted (R52). -/
def Grant.book (c : PortConfig) (a : Nat) (g : Grant) : Grant :=
  { g with delivered := addTotal g.delivered a, liveness := c.liveness * Config.second }

/-- Absorbed Wh booked to the grant and the port of a matched deposit (R52). -/
def State.bookGranted (s : State) (p : PortId) (c : PortConfig) (a : Nat) : State :=
  (s.changeGrant p (Grant.book c a)).changePort p fun port => { port with absorbed := addTotal port.absorbed a }

/-- What a matched deposit decides for its own grant, after the booking: a NORMAL grant may complete (R53), must-take heat
counts against the forecast and may be productive (R54). -/
def State.settleGranted (s : State) (p : PortId) (st : Store) (a : Nat) : State :=
  match s.grant p with
  | none => s
  | some g =>
    match g.cls with
    | .normal n => if n.budget ≤ g.delivered then s.retireHoldingSolar p .completed else s
    | .mustTake _ =>
      let s := { s with arbiter := { s.arbiter with mustTakeHeat := addTotal s.arbiter.mustTakeHeat a } }
      if st.cfg.productive ≤ a then s.productiveDeposit else s
    | .hygiene => s

/-- Unmatched heat (R55). -/
def State.bookUngranted (s : State) (p : PortId) (a : Nat) : State :=
  (s.changePort p fun port => { port with ungranted := addTotal port.ungranted a }).raise .ungrantedHeat

/-- The report of a deposit's operation (R56): the state its answer is built from, and the state it leaves. Where the
Hygiene Monitor's look would complete a run and the report would also set overheat, or the deposit is the run's own, the
place of the look is a free value (R136, R139; safe: log entry 5). -/
def State.depositReport (s : State) (ofRun : Bool) : State × State :=
  if s.lookCompletesRun && (s.reportSetsOverheat || ofRun) then
    match Config.lookOrder s.choices with
    | .beforeArbiter => (s.chosen.hygieneLook.arbiterReport, s.chosen.hygieneLook.arbiterReport)
    | .beforeAnswer => (s.chosen.arbiterReport.hygieneLook, s.chosen.arbiterReport.hygieneLook)
    | .afterAnswer => (s.chosen.arbiterReport, s.chosen.arbiterReport.hygieneLook)
  else (s.arbiterReport.hygieneLook, s.arbiterReport.hygieneLook)

/-- The outcome byte of a matched deposit: the grant's state, or its retirement reason (R57). -/
def State.grantOutcome (s : State) (p : PortId) (handle : Byte) : Nat :=
  match s.matchHandle p handle with
  | .current g => g.state.code
  | .lastEnd r => r.code
  | .neither => 0

/-- The remaining budget of a NORMAL grant, 0 once it has retired and for the other classes (R57). -/
def State.remainingBudget (s : State) (p : PortId) (handle : Byte) : Nat :=
  match s.matchHandle p handle with
  | .current g => g.heldBack
  | .lastEnd _ => 0
  | .neither => 0

/-- The hygiene need of the list as it stands (R14). -/
def State.hygieneNeed (s : State) : Nat := (s.store.map Store.hygieneNeed).getD 0

/-- The answer to a matched deposit, built from a state (R57). -/
def State.matchedAnswer (s : State) (p : PortId) (g : Grant) (e a : Nat) : Answer :=
  { status := .ok
    body := depositBody (s.grantOutcome p g.handle) a (e - a) (s.remainingBudget p g.handle)
      (if g.isHygiene then s.hygieneNeed else 0) s.arbiter.overheat }

/-- The answer to an unmatched deposit, STALE or UNGRANTED, built from a state (R57). -/
def State.unmatchedAnswer (s : State) (status : Status) (outcome e a : Nat) : Answer :=
  { status := status, body := depositBody outcome a (e - a) 0 0 s.arbiter.overheat }

/-- A matched deposit: of no energy it restarts liveness and no more (R44); else it is laid in, booked and settled, and its
report acted on before the answer (R52 to R57). -/
def State.matchedDeposit (s : State) (p : PortId) (c : PortConfig) (st : Store) (g : Grant) (e sent : Nat) : Reply :=
  if e = 0 then
    let s := s.restartLiveness p c
    { state := s, answer := s.matchedAnswer p g 0 0 }
  else
    let l := s.layIn c st e sent
    let r := ((l.1.bookGranted p c l.2).settleGranted p st l.2).depositReport g.isHygiene
    { state := r.2, answer := r.1.matchedAnswer p g e l.2 }

/-- An unmatched deposit: of no energy it changes nothing (R44); else it is laid in and counted as ungranted, and its
report acted on before the answer (R55 to R57). A STALE outcome is the reason found at the match, whatever last end the
report then writes (R42, R57; DEDUCED, unsafe: log entry 29). -/
def State.unmatchedDeposit (s : State) (p : PortId) (c : PortConfig) (st : Store) (status : Status) (outcome e sent : Nat) :
    Reply :=
  if e = 0 then { state := s, answer := s.unmatchedAnswer status outcome 0 0 }
  else
    let l := s.layIn c st e sent
    let s := (l.1.bookUngranted p l.2).modelChanged
    { state := s, answer := s.unmatchedAnswer status outcome e l.2 }

/-- DEPOSIT (R41 to R44). The match, and the reason a STALE answer carries, are settled as it is taken (DEDUCED, unsafe: log
entry 29). -/
def State.depositRequest (ch : Channel) (payload : List Byte) (s : State) : Reply :=
  s.onPort ch fun p s =>
    let f := DepositFields.ofPayload payload
    match s.store, (s.port p).config with
    | none, _ => s.refuseDeposit .notConfigured
    | some _, none => s.refuseDeposit .noPort
    | some st, some c =>
      match s.matchHandle p f.handle with
      | .current g => s.matchedDeposit p c st g f.energy f.supply
      | .lastEnd r => s.unmatchedDeposit p c st .stale r.code f.energy f.supply
      | .neither => s.unmatchedDeposit p c st .ungranted 0 f.energy f.supply

/-- DEPOSIT, kind 20 (R41). -/
def execDeposit (ch : Channel) (body : LongBody) (s : State) : Result :=
  .next (s.longRequest 20 ch body (State.depositRequest ch))

end Sys2Proof.Machine
end

