-- ==== Sys2Proof/Machine/NoticeRequests.lean ====
section
/-!
DEFINITION. NOTICES and NOTICE_ENABLE (R182).
-/

namespace Sys2Proof.Machine

/-- NOTICES: the notice word and the enable mask as they stand, then the flags of the clear mask cleared (R182). -/
def State.noticesRequest (p0 p1 : Byte) (s : State) : Reply :=
  State.answer { s with notices := s.notices.clear (mask16 p0 p1) } .ok 0
    (le 2 s.notices.flags.toNat ++ le 2 s.notices.mask.toNat)

/-- NOTICE_ENABLE: the enable mask replaced (R182). -/
def State.noticeEnableRequest (p0 p1 : Byte) (s : State) : Reply :=
  State.answer { s with notices := s.notices.enable (mask16 p0 p1) } .ok

/-- NOTICES, kind 12 (R182). -/
def execNotices (ch : Channel) (p0 p1 : Byte) (s : State) : Result :=
  .next (s.shortRequest 12 ch p0 p1 (State.noticesRequest p0 p1))

/-- NOTICE_ENABLE, kind 13 (R182). -/
def execNoticeEnable (ch : Channel) (p0 p1 : Byte) (s : State) : Result :=
  .next (s.shortRequest 13 ch p0 p1 (State.noticeEnableRequest p0 p1))

end Sys2Proof.Machine
end

