-- ==== Sys2Proof/Machine/Probes.lean ====
section
/-!
DEFINITION. The Probe Scanner and the Reconciler (chapter 9): scan cycles, readings, alarms, locking, corrections, lockout,
silence, and the requests for the probes.
-/

namespace Sys2Proof.Machine

/-! ### Scan cycles -/

/-- A probe record changed. -/
def State.changeProbe (s : State) (n : ProbeId) (f : Probe → Probe) : State :=
  { s with probes := s.probes.set n (f (s.probes.get n)) }

/-- A probe is enabled (R143, R147). -/
def Probe.enabled (p : Probe) : Bool := (p.config.map (·.enabled)).getD false

/-- The lowest-numbered enabled probe above a number (R143). -/
def State.nextEnabled (s : State) (above : Nat) : Option ProbeId :=
  ProbeId.all.find? fun n => decide (above < n.number) && (s.probes.get n).enabled

/-- A conversion begun for a probe, its 1 s timeout started, or the Scanner idle (R142, R143). -/
def State.convert (s : State) (n : Option ProbeId) : State :=
  { s with scanner := { s.scanner with
      conversion := n.map fun n => { probe := n, timeout := Config.second, reconfigured := false } } }

/-- A scan cycle started: the scan-interval timer restarted and the lowest enabled probe converted; with no enabled probe
the cycle ends at once (R143). -/
def State.startCycle (s : State) : State :=
  match s.store with
  | none => s
  | some st =>
    State.convert { s with scanner := { s.scanner with interval := seconds st.cfg.scanInterval } } (s.nextEnabled 0)

/-- The Scanner moves on from a conversion that has ended: to the next enabled probe, or the cycle ends, and then an owed
cycle starts at once (R143, R144). -/
def State.moveOn (s : State) (from_ : ProbeId) : State :=
  match s.nextEnabled from_.number with
  | some n => s.convert (some n)
  | none =>
    if s.scanner.rescanPending then
      State.startCycle { s with scanner := { s.scanner with rescanPending := false } }
    else s.convert none

/-- A start taken by the Scanner: a cycle, or in flight the rescan-pending mark (R143, R144). -/
def State.takeStart (s : State) : State :=
  if s.scanner.conversion.isSome then { s with scanner := { s.scanner with rescanPending := true } }
  else s.startCycle

/-- The conversion in flight ended: its result handed on unless its probe was reconfigured meanwhile (R146), and the
Scanner moved on (R143). -/
def State.endConversion (s : State) (c : Conversion) (result : State → State) : State :=
  State.moveOn (if c.reconfigured then s else result s) c.probe

/-! ### Readings -/

/-- The classes of a comparison (R151). -/
inductive Comparison where
  | agree | warm | cool
  deriving DecidableEq, Repr

/-- The class of a difference d = model − reading against a tolerance (R151). -/
def classify (tolerance : Nat) (d : Int) : Comparison :=
  if (tolerance : Int) < d then .warm else if d < -(tolerance : Int) then .cool else .agree

/-- The record after a reading: last reading, minimum, maximum, silent count, and the return from FAULT (R149). -/
def Probe.takeReading (p : Probe) (r : Nat) : Probe :=
  { p with
    last := some r
    minimum := some (match p.minimum with | some m => min m r | none => r)
    maximum := some (match p.maximum with | some m => max m r | none => r)
    silent := 0
    state := if p.state = .fault then .seeking else p.state
    agree := if p.state = .fault then 0 else p.agree }

/-- The alarm flag after a reading (R150). -/
def alarmAfter (mode : AlarmMode) (threshold r : Nat) (alarm : Bool) : Bool :=
  match mode with
  | .follow => decide (threshold < r)
  | .latch => alarm || decide (threshold < r)

/-- A probe's alarm flag set or cleared: a rise sets PROBE_ALARM, and a rise or fall is reported to the Charge Arbiter,
which applies its overheat tests (R124, R150). -/
def State.setAlarm (s : State) (n : ProbeId) (alarm : Bool) : State :=
  if (s.probes.get n).alarm = alarm then s
  else
    let s := s.changeProbe n fun p => { p with alarm := alarm }
    (s.raiseIf alarm .probeAlarm).testOverheat

/-- What a correction becomes at its bound: the amount sent and whether it was clipped (R153). -/
def clipCorrection (cumulative c : Int) (bound : Nat) : Int × Bool :=
  if (bound : Int) < cumulative + c then (bound - cumulative, true)
  else if cumulative + c < -(bound : Int) then (-bound - cumulative, true)
  else (c, false)

/-- A probe enters LOCKOUT: PROBE_LOCKOUT, and its hold timer started unless the hold is 0 (R155). -/
def State.enterLockout (s : State) (n : ProbeId) (hold : Nat) : State :=
  let s := s.changeProbe n fun p =>
    { p with state := .lockout, holdTimer := if hold = 0 then none else minutes hold }
  s.raise .probeLockout

/-- A correction sent to the Store Model, unless it is 0 (R153). -/
def State.sendCorrection (s : State) (height : Nat) (c : Int) : State :=
  if c = 0 then s else { s with corrections := s.corrections ++ [{ height := height, amount := c }] }

/-- A WARM or COOL reading: the probe SEEKING with agree count 0, the correction computed, clipped, counted and sent; a
third clip in a row enters LOCKOUT, once its correction, if it is not 0, has been carried out after those sent before it
(R152, R153, R155; DEDUCED, unsafe: log entry 14). -/
def State.correct (s : State) (n : ProbeId) (cfg : ProbeConfig) (d : Int) : State :=
  let p := s.probes.get n
  let c := clipCorrection p.cumulative (roundDivInt (-d) (2 ^ cfg.shift)) cfg.bound
  let limited := if c.2 then p.limited + 1 else 0
  let s := s.changeProbe n fun p =>
    { p with state := .seeking, agree := 0, cumulative := p.cumulative + c.1, limited := limited }
  let s := s.sendCorrection cfg.height c.1
  if limited = 3 then State.enterLockout (if c.1 = 0 then s else s.settleCorrections) n cfg.hold else s

/-- An agreeing reading (R152). -/
def Probe.agreed (p : Probe) (lockCount : Nat) : Probe :=
  if p.state = .seeking then
    { p with agree := p.agree + 1, state := if p.agree + 1 = lockCount then .locked else .seeking }
  else p

/-- The comparison of a reading with the model at the probe's height, and what it leads to (R151 to R153). -/
def State.compareReading (s : State) (n : ProbeId) (cfg : ProbeConfig) (st : Store) (r : Nat) : State :=
  let d : Int := (tempAt cfg.height st.strata : Int) - r
  match classify cfg.tolerance d with
  | .agree => s.changeProbe n fun p => p.agreed cfg.lockCount
  | .warm => s.correct n cfg d
  | .cool => s.correct n cfg d

/-- A reading handed to the Reconciler: record, alarm, and outside LOCKOUT the comparison (R149). -/
def State.takeReading (s : State) (n : ProbeId) (r : Nat) : State :=
  match s.store, (s.probes.get n).config with
  | some st, some cfg =>
    let s := s.changeProbe n fun p => p.takeReading r
    let s := s.setAlarm n (alarmAfter cfg.alarmMode cfg.threshold r (s.probes.get n).alarm)
    if (s.probes.get n).state = .lockout then s else s.compareReading n cfg st r
  | _, _ => s

/-- A timeout handed to the Reconciler (R148). -/
def State.takeTimeout (s : State) (n : ProbeId) : State :=
  let p := s.probes.get n
  let silent := min (p.silent + 1) 3
  let faults := decide (silent = 3) && (decide (p.state = .seeking) || decide (p.state = .locked))
  let s := s.changeProbe n fun p =>
    { p with
      silent := silent
      state := if faults then .fault else p.state
      agree := if faults then 0 else p.agree }
  s.raiseIf (faults || decide (p.silent = 2)) .probeFault

/-- A reply on the PROBE line: it ends the conversion in flight when its check passes and its address is the one in flight,
and is ignored otherwise (R142). -/
def State.takeReply (s : State) (checkPasses : Bool) (address : Nat) (reading : Int) : State :=
  match s.scanner.conversion with
  | none => s
  | some c =>
    if checkPasses && address == c.probe.number then
      s.endConversion c fun s => s.takeReading c.probe (clampTempInt reading)
    else s

/-- The timeout of the conversion in flight (R142, R148). -/
def State.timeOutConversion (s : State) : State :=
  match s.scanner.conversion with
  | none => s
  | some c => s.endConversion c fun s => s.takeTimeout c.probe

/-- A probe moved from LOCKOUT to SEEKING with its counts and cumulative correction at 0 (R156, R158). -/
def Probe.relock (p : Probe) : Probe :=
  if p.state = .lockout then
    { p with state := .seeking, cumulative := 0, limited := 0, agree := 0, holdTimer := none }
  else p

/-- The expiry of a lockout hold timer; a stopped timer does not expire (R156). -/
def State.expireHold (s : State) (n : ProbeId) : State :=
  if (s.probes.get n).holdTimer.isSome then s.changeProbe n fun p => { p.relock with holdTimer := none } else s

/-- The expiry of the scan-interval timer: a start; taken in flight it leaves the timer stopped (R143, R144). -/
def State.expireScanInterval (s : State) : State :=
  if s.scanner.interval.isSome then
    State.takeStart { s with scanner := { s.scanner with interval := none } }
  else s

/-! ### Requests -/

/-- SCAN (R145). -/
def State.scanRequest (s : State) : Reply :=
  s.onStore fun _ s => s.takeStart.answer .ok (yesNo s.scanner.conversion.isSome)

/-- PROBE_CLEAR (R158): the actions named by the sum, relock first, then clear min/max, then clear alarm. -/
def State.probeClearRequest (p0 p1 : Byte) (s : State) : Reply :=
  s.onStore fun _ s =>
    match ProbeId.ofNumber p0.toNat with
    | none => s.answer .errRange
    | some n =>
      if 7 < p1.toNat then s.answer .errRange
      else
        let s := if p1.getLsbD 0 then s.changeProbe n Probe.relock else s
        let s := if p1.getLsbD 1 then s.changeProbe n fun p => { p with minimum := none, maximum := none } else s
        let s := if p1.getLsbD 2 then s.setAlarm n false else s
        s.answer .ok (s.probes.get n).state.code

/-- A tuning field of CONFIGURE_PROBE: 0 takes the default, any other value is clamped (R157). -/
def tuneZero (default lo hi n : Nat) : Nat := if n = 0 then default else clamp lo hi n

/-- The configuration a CONFIGURE_PROBE sets (R157). -/
def ProbeFields.config (f : ProbeFields) : ProbeConfig :=
  { height := f.height
    enabled := f.enabled == 1
    tolerance := tuneZero 100 20 500 f.tolerance
    lockCount := tuneZero 4 1 15 f.lockCount
    shift := tuneZero 2 1 3 f.shift
    bound := tuneZero 500 50 2000 f.bound
    hold := clamp 0 255 f.hold
    threshold := tuneZero 9000 5000 11000 f.threshold
    alarmMode := if f.alarmMode = 1 then .latch else .follow }

/-- The conversion in flight marked when its probe is reconfigured (R146). -/
def Scanner.noteReconfigured (sc : Scanner) (n : ProbeId) : Scanner :=
  { sc with conversion := sc.conversion.map fun c =>
      if c.probe = n then { c with reconfigured := true } else c }

/-- CONFIGURE_PROBE (R157). -/
def State.configureProbeRequest (payload : List Byte) (s : State) : Reply :=
  s.onStore fun st s =>
    let f := ProbeFields.ofPayload payload
    match ProbeId.ofNumber f.probe with
    | none => s.answer .errRange
    | some n =>
      if 1 < f.alarmMode ∨ 1 < f.enabled then s.answer .errRange
      else if st.cfg.volume < f.height then s.answer .errRange
      else
        let s := s.setAlarm n false
        let s := s.changeProbe n fun _ =>
          { Probe.initial with
            config := some f.config
            state := if f.config.enabled then .seeking else .off }
        let s := { s with scanner := s.scanner.noteReconfigured n }
        s.answer .ok

/-- READ with the PROBES selector: the eight records, then the Scanner's state, its cycle in flight and its
rescan-pending mark one byte each in the yes-or-no codes (R159, R172; DEDUCED, unsafe: log entry 11). -/
def State.readProbesRequest (s : State) : Reply :=
  s.onStore fun _ s =>
    s.answer .ok 0 ((ProbeId.all.map fun n => (s.probes.get n).record).flatten
      ++ le 1 (yesNo s.scanner.conversion.isSome)
      ++ leOrAbsent 1 (s.scanner.conversion.map (·.probe.number))
      ++ le 1 (yesNo s.scanner.rescanPending)
      ++ le 2 (timerLeft Config.second s.scanner.interval))

/-! ### The meanings -/

/-- SCAN, kind 9 (R145). -/
def execScan (ch : Channel) (p0 p1 : Byte) (s : State) : Result := .next (s.shortRequest 9 ch p0 p1 State.scanRequest)

/-- RELOCK: the PROBE_CLEAR message, kind 10, whose sum names relock (R158; DEDUCED, safe:
log entry 15). -/
def execRelock (ch : Channel) (p0 p1 : Byte) (s : State) : Result :=
  .next (s.shortRequest 10 ch p0 p1 (State.probeClearRequest p0 p1))

/-- CLEAR_MIN_MAX: the PROBE_CLEAR message, kind 10, whose sum names clear min/max (R158; DEDUCED, safe:
log entry 15). -/
def execClearMinMax (ch : Channel) (p0 p1 : Byte) (s : State) : Result :=
  .next (s.shortRequest 10 ch p0 p1 (State.probeClearRequest p0 p1))

/-- CLEAR_ALARM: the PROBE_CLEAR message, kind 10, whose sum names clear alarm (R158; DEDUCED, safe:
log entry 15). -/
def execClearAlarm (ch : Channel) (p0 p1 : Byte) (s : State) : Result :=
  .next (s.shortRequest 10 ch p0 p1 (State.probeClearRequest p0 p1))

/-- CONFIGURE_PROBE, kind 18 (R157). -/
def execConfigureProbe (ch : Channel) (body : LongBody) (s : State) : Result :=
  .next (s.longRequest 18 ch body State.configureProbeRequest)

/-- SCAN_INTERVAL_EXPIRY (R143, R144). -/
def execScanIntervalExpiry (s : State) : Result := .next (s.whenRunning State.expireScanInterval)

/-- CONVERSION_TIMEOUT (R142, R148). -/
def execConversionTimeout (s : State) : Result := .next (s.whenRunning State.timeOutConversion)

/-- PROBE_REPLY (R142, R149). -/
def execProbeReply (checkPasses : Bool) (address : Nat) (reading : Int) (s : State) : Result :=
  .next (s.whenRunning fun s => s.takeReply checkPasses address reading)

/-- PROBE_CORRECTION (R33, R154). -/
def execProbeCorrection (s : State) : Result := .next (s.whenRunning State.takeCorrection)

/-- LOCKOUT_HOLD_EXPIRY (R156). -/
def execLockoutHoldExpiry (n : ProbeId) (s : State) : Result := .next (s.whenRunning fun s => s.expireHold n)

end Sys2Proof.Machine
end

