-- ==== Sys2Proof/Machine/StoreRequests.lean ====
section
/-!
DEFINITION. The requests the Store Model answers, and its two timed operations: SET_MODE, SET_MAINS, SET_AMBIENT, DRAW,
RESEED, PROFILE, CONFIGURE_STORE, the readings of the list, loss steps and hygiene minutes (chapters 2, 4 and 11).
-/

namespace Sys2Proof.Machine

/-- The ports that hold a NORMAL grant, in port order (R109). -/
def Arbiter.normalPorts (a : Arbiter) : List PortId :=
  PortId.all.filter fun p => ((a.grants.get p).map fun g => g.normal?.isSome).getD false

/-- HOLIDAY entered: NORMAL grants retire MODE in port order, and the comfort emergency is cleared without notice (R109,
R121). -/
def State.enterHoliday (s : State) (st : Store) : State :=
  let s := { s with store := some { st with holiday := true } }
  let s := s.retireAll .mode s.arbiter.normalPorts
  { s with arbiter := { s.arbiter with comfortEmergency := false } }

/-- RUNNING entered from HOLIDAY: the hot volume is compared at once (R121). -/
def State.leaveHoliday (s : State) (st : Store) : State :=
  State.compareComfort { s with store := some { st with holiday := false } }

/-- SET_MODE (R177); a code naming the mode in force is answered with value 0 (R170; DEDUCED, unsafe:
log entry 9). -/
def State.setModeRequest (p0 : Byte) (s : State) : Reply :=
  s.onStore fun st s =>
    if p0.toNat = Mode.running.code then
      if st.holiday then (s.leaveHoliday st).answer .ok Mode.running.code else s.answer .ok
    else if p0.toNat = Mode.holiday.code then
      if st.holiday then s.answer .ok else (s.enterHoliday st).answer .ok Mode.holiday.code
    else s.answer .errRange

/-- SET_MAINS (R64). -/
def State.setMainsRequest (p0 p1 : Byte) (s : State) : Reply :=
  s.onStore fun st s =>
    State.answer { s with store := some { st with mains := clamp 0 4000 (word16 p0 p1) } } .ok

/-- SET_AMBIENT (R65). -/
def State.setAmbientRequest (p0 p1 : Byte) (s : State) : Reply :=
  s.onStore fun st s =>
    State.answer { s with store := some { st with ambient := clamp 0 4000 (word16 p0 p1) } } .ok

/-- A draw of 1 to V dL carried out as one operation (R60). -/
def State.carryOutDraw (s : State) (st : Store) (volume : Nat) : Reply :=
  let d := drawList st.cfg st.mains volume st.strata
  let s := s.raiseIf d.forced .forcedMerge
  (s.withStrata st d.strata).modelChanged.answer .ok 0 (le 2 volume ++ le 2 d.mean ++ le 4 d.energy)

/-- DRAW (R59). -/
def State.drawRequest (p0 p1 : Byte) (s : State) : Reply :=
  s.onStore fun st s =>
    let volume := word16 p0 p1
    if volume = 0 then s.answer .ok 0 (le 2 0 ++ le 2 0 ++ le 4 0)
    else if st.cfg.volume < volume then (s.raise .drawClamped).carryOutDraw st st.cfg.volume
    else s.carryOutDraw st volume

/-- A usable probe's height and last reading (R34). -/
def Probe.usable (p : Probe) : Option (Nat × Nat) :=
  if p.state = .seeking ∨ p.state = .locked then
    match p.config, p.last with
    | some c, some r => some (c.height, r)
    | _, _ => none
  else none

/-- The usable probes' readings in height order, the lowest number at a shared height (R35). -/
def State.usableReadings (s : State) : List (Nat × Nat) :=
  (ProbeId.all.filterMap fun n => (s.probes.get n).usable).foldl (fun l r => placeReading r.1 r.2 l) []

/-- A probe record with its cumulative correction at 0 (R36). -/
def Probe.forgetCorrections (p : Probe) : Probe := { p with cumulative := 0 }

/-- RESEED (R34 to R36). -/
def State.reseedRequest (s : State) : Reply :=
  s.onStore fun st s =>
    let readings := s.usableReadings
    if readings.isEmpty then s.answer .noProbes
    else
      let l := reseedList st.cfg readings st.strata
      let s := s.withStrata st l
      let s := { s with probes := s.probes.map Probe.forgetCorrections }
      s.modelChanged.answer .ok l.length

/-- PROFILE (R37). -/
def State.profileRequest (p0 : Byte) (s : State) : Reply :=
  s.onStore fun st s =>
    match profilePoints p0.toNat with
    | none => s.answer .errRange
    | some n => s.answer .ok 0 ((profile st.cfg n st.strata).map (le 2)).flatten

/-- The store that a configuration starts, RUNNING or HOLIDAY as before (R32, R176). -/
def Store.start (cfg : StoreConfig) (holiday : Bool) : Store :=
  { cfg := cfg
    holiday := holiday
    strata := [{ volume := cfg.volume, temp := cfg.initialTemp, age := 0, dwell := 0 }]
    mains := cfg.mains
    ambient := cfg.ambient
    lossTimer := cfg.lossInterval * Config.minute
    minuteTimer := Config.minute }

/-- A CONFIGURE_STORE taken: the blocks take their starting states, the store starts, and its report is acted on (R179). -/
def State.startStore (s : State) (cfg : StoreConfig) : State :=
  State.modelChanged
    { s with
      store := some (Store.start cfg (decide (s.mode = .holiday)))
      arbiter := .initial
      hygiene := .initial
      scanner := { conversion := none, rescanPending := false, interval := seconds cfg.scanInterval }
      probes := .replicate .initial }

/-- CONFIGURE_STORE (R178). -/
def State.configureStoreRequest (payload : List Byte) (s : State) : Reply :=
  let cfg := (StoreConfig.sent payload).tuned
  if cfg.volume < 1000 ∨ 15000 < cfg.volume then s.answer .errRange
  else if !cfg.fits then s.answer .errRange
  else if s.arbiter.anyGrant then s.answer .busy
  else (s.startStore cfg).answer .ok

/-- READ with the STRATA selector (R38). -/
def State.readStrataRequest (s : State) : Reply :=
  s.onStore fun st s => s.answer .ok 0 (le 1 st.strata.length ++ (st.strata.map Stratum.record).flatten)

/-- READ with the SUMMARY selector (R10, R66, R175). -/
def State.readSummaryRequest (s : State) : Reply :=
  s.onStore fun st s =>
    s.answer .ok 0
      (le 4 st.headroom ++ le 2 st.hotVolume ++ le 4 st.comfortNeed ++ le 4 st.hygieneNeed
        ++ le 2 s.arbiter.solarReserve ++ le 2 st.mains ++ le 2 st.ambient ++ le 2 (topTemp st.strata)
        ++ le 1 s.hygiene.state.code ++ le 2 (timerLeft Config.minute s.hygiene.limit) ++ le 1 s.mode.code)

/-- The loss-interval timer restarted at its expiry, and a loss step (R67, R68). -/
def State.expireLossInterval (s : State) : State :=
  match s.store with
  | none => s
  | some st =>
    let st := { st with lossTimer := st.cfg.lossInterval * Config.minute }
    (s.withStrata st (lossStep st.cfg st.ambient st.strata)).modelChanged

/-- The hygiene-minute timer restarted at its expiry, and a hygiene minute update (R72, R73). -/
def State.expireHygieneMinute (s : State) : State :=
  match s.store with
  | none => s
  | some st =>
    let st := { st with minuteTimer := Config.minute }
    (s.withStrata st (minuteUpdate st.cfg st.strata)).modelChanged

/-! ### The meanings -/

/-- SET_MODE, kind 1 (R177). -/
def execSetMode (ch : Channel) (p0 p1 : Byte) (s : State) : Result :=
  .next (s.shortRequest 1 ch p0 p1 (State.setModeRequest p0))

/-- SET_MAINS, kind 3 (R64). -/
def execSetMains (ch : Channel) (p0 p1 : Byte) (s : State) : Result :=
  .next (s.shortRequest 3 ch p0 p1 (State.setMainsRequest p0 p1))

/-- SET_AMBIENT, kind 4 (R65). -/
def execSetAmbient (ch : Channel) (p0 p1 : Byte) (s : State) : Result :=
  .next (s.shortRequest 4 ch p0 p1 (State.setAmbientRequest p0 p1))

/-- DRAW, kind 5 (R59 to R63). -/
def execDraw (ch : Channel) (p0 p1 : Byte) (s : State) : Result :=
  .next (s.shortRequest 5 ch p0 p1 (State.drawRequest p0 p1))

/-- RESEED, kind 11 (R34 to R36). -/
def execReseed (ch : Channel) (p0 p1 : Byte) (s : State) : Result :=
  .next (s.shortRequest 11 ch p0 p1 State.reseedRequest)

/-- PROFILE, kind 15 (R37). -/
def execProfile (ch : Channel) (p0 p1 : Byte) (s : State) : Result :=
  .next (s.shortRequest 15 ch p0 p1 (State.profileRequest p0))

/-- CONFIGURE_STORE, kind 16 (R178, R179). -/
def execConfigureStore (ch : Channel) (body : LongBody) (s : State) : Result :=
  .next (s.longRequest 16 ch body State.configureStoreRequest)

/-- LOSS_INTERVAL_EXPIRY (R67 to R71). -/
def execLossIntervalExpiry (s : State) : Result := .next (s.whenRunning State.expireLossInterval)

/-- HYGIENE_MINUTE_EXPIRY (R72 to R74). -/
def execHygieneMinuteExpiry (s : State) : Result := .next (s.whenRunning State.expireHygieneMinute)

end Sys2Proof.Machine
end

