-- ==== Sys2Proof/Machine/Reads.lean ====
section
/-!
DEFINITION. READ, kind 21, by its selector (R168, R172).
-/

namespace Sys2Proof.Machine

/-- READ: the selector byte says which block answers (R168, R172); check 6 of R167 lets no other selector through. -/
def State.readRequest (payload : List Byte) (s : State) : Reply :=
  match field8 payload 0 with
  | 0 => s.readStrataRequest
  | 1 => s.readPortsRequest
  | 2 => s.readGrantsRequest
  | 3 => s.readProbesRequest
  | 4 => s.readSummaryRequest
  | _ => s.answer .errRange

/-- READ_STRATA: READ with selector 0 (R38). -/
def execReadStrata (ch : Channel) (body : LongBody) (s : State) : Result :=
  .next (s.longRequest 21 ch body State.readRequest)

/-- READ_PORTS: READ with selector 1 (R86). -/
def execReadPorts (ch : Channel) (body : LongBody) (s : State) : Result :=
  .next (s.longRequest 21 ch body State.readRequest)

/-- READ_GRANTS: READ with selector 2 (R110). -/
def execReadGrants (ch : Channel) (body : LongBody) (s : State) : Result :=
  .next (s.longRequest 21 ch body State.readRequest)

/-- READ_PROBES: READ with selector 3 (R159). -/
def execReadProbes (ch : Channel) (body : LongBody) (s : State) : Result :=
  .next (s.longRequest 21 ch body State.readRequest)

/-- READ_SUMMARY: READ with selector 4 (R10). -/
def execReadSummary (ch : Channel) (body : LongBody) (s : State) : Result :=
  .next (s.longRequest 21 ch body State.readRequest)

end Sys2Proof.Machine
end

