-- ==== Sys2Proof/Machine/Reception.lean ====
section
/-!
DEFINITION. The Link Controller's own commands: bytes and faults on RXD, the stall timer, messages of unassigned kinds, and
IDENTIFY (chapter 10).
-/

namespace Sys2Proof.Machine

/-- The stall timer runs out; a stopped timer does not expire (R165, R18). -/
def State.expireStall (s : State) : State := if s.link.stall.isSome then s.stallExpired else s

/-- IDENTIFY's answer (R173). -/
def State.identifyRequest (s : State) : Reply :=
  s.answer .ok 0
    (le 1 0x3A ++ le 2 632 ++ le 1 1 ++ le 1 Config.strataCapacity ++ le 1 6 ++ le 1 8 ++ le 1 Config.resumeCapacity
      ++ le 1 Config.queueCapacity ++ le 1 s.mode.code)

/-- RX_BYTE (R164, R165). -/
def execRxByte (b : Byte) (s : State) : Result := .next (s.whenRunning fun s => s.receive b)

/-- RX_FRAMING_FAULT (R164, R165). -/
def execRxFramingFault (s : State) : Result := .next (s.whenRunning State.receiveFault)

/-- STALL_EXPIRY (R164, R165). -/
def execStallExpiry (s : State) : Result := .next (s.whenRunning State.expireStall)

/-- UNASSIGNED_KIND, kind 22 + k (R167): one of the first three checks fails, so no block is reached. -/
def execUnassignedKind (k : Fin 10) (ch : Channel) (body : LongBody) (s : State) : Result :=
  .next (s.longRequest (22 + k.val) ch body fun _ s => s.answer .errKind)

/-- IDENTIFY, kind 0 (R173). -/
def execIdentify (ch : Channel) (p0 p1 : Byte) (s : State) : Result :=
  .next (s.shortRequest 0 ch p0 p1 State.identifyRequest)

end Sys2Proof.Machine
end

