-- ==== Sys2Proof/Machine/Resets.lean ====
section
/-!
DEFINITION. The reset causes (R39, R40, R58, R111, R112, R160, R174, R180) and the pins: POWER_ON, RESET_PIN_LOW,
RESET_PIN_RELEASE, RATE_STRAP_CHANGE, the RESET request and its two effects.
-/

namespace Sys2Proof.Machine

/-- Every block but the Link Controller in its power-on state (R15, R39, R87, R112, R131, R160, R180, R181). -/
def State.powerOnBlocks (s : State) : State :=
  { s with
    store := none
    corrections := []
    arbiter := .initial
    hygiene := .initial
    scanner := .initial
    probes := .replicate .initial
    notices := .initial }

/-- The Link Controller at power-on and under the RESET pin: nothing queued or under way, in HUNT with the stall timer
started (R174). -/
def Link.powerOn (l : Link) : Link :=
  { l with framing := .hunt, stall := some Config.stallPeriods, queue := [], resetPending := none, txd := [] }

/-- The bit rate as the straps stand (R161). -/
def State.readStraps (s : State) : State :=
  { s with link := { s.link with rate := .ofStraps s.pins.rate1 s.pins.rate0 } }

/-- Every block in its power-on state (R180). -/
def State.powerOn (s : State) : State := { s.powerOnBlocks with link := s.link.powerOn }

/-- The Link Controller when a RESET request takes effect, either scope: the queue emptied, a message being received
discarded with the state HUNT, and the state IDLE when none was (R174; DEDUCED, unsafe: log
entry 17). -/
def Link.resetTakesEffect (l : Link) : Link :=
  let l := { l with queue := [], resetPending := none }
  match l.framing with
  | .header _ => { l with framing := .hunt }
  | .payload _ _ _ _ => { l with framing := .hunt }
  | .idle => { l with framing := .idle, stall := none }
  | .hunt => { l with framing := .idle, stall := none }

/-- The Charge Arbiter when a GRANTS reset takes effect: every grant retires RESET_GRANTS in port order, solar-active is
cleared without a resumption, the comfort emergency is cleared, and overheat is tested (R111, R121, R128). -/
def State.resetGrants (s : State) : State :=
  let s := s.retireAll .resetGrants PortId.all
  let wasSolar := s.arbiter.solarActive
  let s := { s with arbiter :=
    { s.arbiter with solarActive := false, solarIdle := none, comfortEmergency := false } }
  (s.raiseIf wasSolar .solarChanged).testOverheat

/-- A RESET of scope GRANTS takes effect: what the blocks have already taken is completed first (R40, R111, R160), then
the grants and the link state are reset. -/
def State.grantsResetTakesEffect (s : State) : State :=
  let s := s.settleCorrections.resetGrants
  { s with link := s.link.resetTakesEffect }

/-- A RESET of scope FULL takes effect: every block in its power-on state, and the link state as at either scope (R174,
R180). -/
def State.fullResetTakesEffect (s : State) : State :=
  { s.powerOnBlocks with link := s.link.resetTakesEffect }

/-- The RESET request: OK before it takes effect, or ERR_RANGE for an unknown scope (R174). -/
def State.resetRequest (p0 : Byte) (s : State) : Reply :=
  if p0 = 0 then State.answer { s with link := { s.link with resetPending := some .grants } } .ok
  else if p0 = 1 then State.answer { s with link := { s.link with resetPending := some .full } } .ok
  else s.answer .errRange

/-- POWER_ON (R39, R161, R180): every block in its power-on state and the straps read. -/
def execPowerOn (s : State) : Result := .next s.powerOn.readStraps

/-- RESET_PIN_LOW (R39, R174, R180): the part held in its power-on state; an operation or answer under way is abandoned. -/
def execResetPinLow (s : State) : Result :=
  .next { s.powerOn with pins := { s.pins with resetLow := true } }

/-- RESET_PIN_RELEASE (R39, R161, R174): the straps are read, and the link is in HUNT with the stall timer started. A pin
that is not low does not rise. -/
def execResetPinRelease (s : State) : Result :=
  .next (if s.pins.resetLow then
    State.readStraps { s.powerOn with pins := { s.pins with resetLow := false } }
  else s)

/-- RATE_STRAP_CHANGE (R161): the strap inputs change and the bit rate does not. -/
def execRateStrapChange (rate1 rate0 : Bool) (s : State) : Result :=
  .next { s with pins := { s.pins with rate1 := rate1, rate0 := rate0 } }

/-- RESET, kind 14 (R174, R180). -/
def execReset (ch : Channel) (p0 p1 : Byte) (s : State) : Result :=
  .next (s.shortRequest 14 ch p0 p1 (State.resetRequest p0))

/-- RESET_GRANTS_TAKES_EFFECT (R111, R174): the OK answer of a RESET of scope GRANTS has been sent. -/
def execResetGrantsTakesEffect (s : State) : Result :=
  .next (s.whenRunning fun s =>
    if s.link.resetPending = some .grants then s.grantsResetTakesEffect else s)

/-- RESET_FULL_TAKES_EFFECT (R174, R180): the OK answer of a RESET of scope FULL has been sent. -/
def execResetFullTakesEffect (s : State) : Result :=
  .next (s.whenRunning fun s =>
    if s.link.resetPending = some .full then s.fullResetTakesEffect else s)

end Sys2Proof.Machine
end

