-- ==== Sys2Proof/Machine/Dispatch.lean ====
section
/-!
DEFINITION. Each command sent to its meaning.
-/

namespace Sys2Proof.Machine

def exec (i : Instr) (s : State) : Host.Outcome State Fault Refusal :=
  match i with
  | .powerOn => Sys2Proof.Machine.execPowerOn s
  | .resetPinLow => Sys2Proof.Machine.execResetPinLow s
  | .resetPinRelease => Sys2Proof.Machine.execResetPinRelease s
  | .rxByte b => Sys2Proof.Machine.execRxByte b s
  | .rxFramingFault => Sys2Proof.Machine.execRxFramingFault s
  | .stallExpiry => Sys2Proof.Machine.execStallExpiry s
  | .unassignedKind k ch body => Sys2Proof.Machine.execUnassignedKind k ch body s
  | .identify ch p0 p1 => Sys2Proof.Machine.execIdentify ch p0 p1 s
  | .setMode ch p0 p1 => Sys2Proof.Machine.execSetMode ch p0 p1 s
  | .setForecast ch p0 p1 => Sys2Proof.Machine.execSetForecast ch p0 p1 s
  | .setMains ch p0 p1 => Sys2Proof.Machine.execSetMains ch p0 p1 s
  | .setAmbient ch p0 p1 => Sys2Proof.Machine.execSetAmbient ch p0 p1 s
  | .draw ch p0 p1 => Sys2Proof.Machine.execDraw ch p0 p1 s
  | .keepalive ch p0 p1 => Sys2Proof.Machine.execKeepalive ch p0 p1 s
  | .release ch p0 p1 => Sys2Proof.Machine.execRelease ch p0 p1 s
  | .revoke ch p0 p1 => Sys2Proof.Machine.execRevoke ch p0 p1 s
  | .scan ch p0 p1 => Sys2Proof.Machine.execScan ch p0 p1 s
  | .relock ch p0 p1 => Sys2Proof.Machine.execRelock ch p0 p1 s
  | .clearMinMax ch p0 p1 => Sys2Proof.Machine.execClearMinMax ch p0 p1 s
  | .clearAlarm ch p0 p1 => Sys2Proof.Machine.execClearAlarm ch p0 p1 s
  | .reseed ch p0 p1 => Sys2Proof.Machine.execReseed ch p0 p1 s
  | .notices ch p0 p1 => Sys2Proof.Machine.execNotices ch p0 p1 s
  | .noticeEnable ch p0 p1 => Sys2Proof.Machine.execNoticeEnable ch p0 p1 s
  | .reset ch p0 p1 => Sys2Proof.Machine.execReset ch p0 p1 s
  | .resetGrantsTakesEffect => Sys2Proof.Machine.execResetGrantsTakesEffect s
  | .resetFullTakesEffect => Sys2Proof.Machine.execResetFullTakesEffect s
  | .profile ch p0 p1 => Sys2Proof.Machine.execProfile ch p0 p1 s
  | .configureStore ch body => Sys2Proof.Machine.execConfigureStore ch body s
  | .configurePort ch body => Sys2Proof.Machine.execConfigurePort ch body s
  | .configureProbe ch body => Sys2Proof.Machine.execConfigureProbe ch body s
  | .requestCharge ch body => Sys2Proof.Machine.execRequestCharge ch body s
  | .deposit ch body => Sys2Proof.Machine.execDeposit ch body s
  | .readStrata ch body => Sys2Proof.Machine.execReadStrata ch body s
  | .readPorts ch body => Sys2Proof.Machine.execReadPorts ch body s
  | .readGrants ch body => Sys2Proof.Machine.execReadGrants ch body s
  | .readProbes ch body => Sys2Proof.Machine.execReadProbes ch body s
  | .readSummary ch body => Sys2Proof.Machine.execReadSummary ch body s
  | .lossIntervalExpiry => Sys2Proof.Machine.execLossIntervalExpiry s
  | .hygieneMinuteExpiry => Sys2Proof.Machine.execHygieneMinuteExpiry s
  | .livenessExpiry p => Sys2Proof.Machine.execLivenessExpiry p s
  | .minRunExpiry p => Sys2Proof.Machine.execMinRunExpiry p s
  | .solarIdleExpiry => Sys2Proof.Machine.execSolarIdleExpiry s
  | .hygieneTimeLimitExpiry => Sys2Proof.Machine.execHygieneTimeLimitExpiry s
  | .scanIntervalExpiry => Sys2Proof.Machine.execScanIntervalExpiry s
  | .conversionTimeout => Sys2Proof.Machine.execConversionTimeout s
  | .probeReply checkPasses address reading => Sys2Proof.Machine.execProbeReply checkPasses address reading s
  | .probeCorrection => Sys2Proof.Machine.execProbeCorrection s
  | .lockoutHoldExpiry n => Sys2Proof.Machine.execLockoutHoldExpiry n s
  | .rateStrapChange rate1 rate0 => Sys2Proof.Machine.execRateStrapChange rate1 rate0 s

end Sys2Proof.Machine
end

