-- ==== Sys2Proof/Machine/Idle.lean ====
section
/-!
DEFINITION. The part with no command waiting: an event due inside it is carried out, and else one period of the crystal
passes (R18; DESIGN CHOICE, unsafe: log entry 1).
-/

namespace Sys2Proof.Machine

/-! ### One crystal period -/

/-- A running timer one period on. -/
def Timer.pass : Timer → Timer := Option.map (· - 1)

/-- A grant's timers one period on (R88, R104, R115). -/
def Grant.pass (g : Grant) : Grant :=
  ({ g with liveness := g.liveness - 1 } : Grant).changeNormal fun n => { n with minRun := Timer.pass n.minRun }

/-- The Store Model's two timers one period on (R67, R72). -/
def Store.pass (st : Store) : Store :=
  { st with lossTimer := st.lossTimer - 1, minuteTimer := st.minuteTimer - 1 }

/-- The Charge Arbiter's timers one period on (R88, R113). -/
def Arbiter.pass (a : Arbiter) : Arbiter :=
  { a with grants := a.grants.map (Option.map Grant.pass), solarIdle := Timer.pass a.solarIdle }

/-- The Probe Scanner's timers one period on (R142, R143). -/
def Scanner.pass (sc : Scanner) : Scanner :=
  { sc with
    conversion := sc.conversion.map fun c => { c with timeout := c.timeout - 1 }
    interval := Timer.pass sc.interval }

/-- A probe's hold timer one period on (R155). -/
def Probe.pass (p : Probe) : Probe := { p with holdTimer := Timer.pass p.holdTimer }

/-- One crystal period: every timer that runs counts it (R18; DEDUCED, unsafe: log entry 27), and nothing else changes. -/
def State.tick (s : State) : State :=
  { s with
    store := s.store.map Store.pass
    arbiter := s.arbiter.pass
    hygiene := { s.hygiene with limit := Timer.pass s.hygiene.limit }
    scanner := s.scanner.pass
    probes := s.probes.map Probe.pass
    link := { s.link with stall := Timer.pass s.link.stall } }

/-! ### The events due -/

/-- A command in a list of its own exactly when a condition holds. -/
def dueIf (c : Bool) (i : Instr) : List Instr := if c then [i] else []

/-- A timer has run out and its expiry has not been taken. -/
def Timer.out (t : Timer) : Bool := decide (t = some 0)

/-- The expiries due at a grant (R104, R115). -/
def Grant.due (p : PortId) (g : Grant) : List Instr :=
  dueIf (decide (g.liveness = 0)) (.livenessExpiry p)
    ++ dueIf (((g.normal?.map fun n => Timer.out n.minRun)).getD false) (.minRunExpiry p)

/-- The expiries due at the Store Model (R67, R72). -/
def Store.due (st : Store) : List Instr :=
  dueIf (decide (st.lossTimer = 0)) .lossIntervalExpiry ++ dueIf (decide (st.minuteTimer = 0)) .hygieneMinuteExpiry

/-- The work the Link Controller has: a RESET whose answer has been sent takes effect (R174), or the oldest waiting message
is taken (R167, R169). -/
def Link.due (l : Link) : List Instr :=
  match l.resetPending with
  | some .grants => [.resetGrantsTakesEffect]
  | some .full => [.resetFullTakesEffect]
  | none =>
    match l.queue with
    | [] => []
    | m :: _ => m.command.toList

/-- Every event due inside the part. -/
def State.due (s : State) : List Instr :=
  s.link.due
    ++ dueIf (Timer.out s.link.stall) .stallExpiry
    ++ dueIf (!s.corrections.isEmpty) .probeCorrection
    ++ (s.store.map Store.due).getD []
    ++ (PortId.all.map fun p => ((s.grant p).map (Grant.due p)).getD []).flatten
    ++ dueIf (Timer.out s.arbiter.solarIdle) .solarIdleExpiry
    ++ dueIf (Timer.out s.hygiene.limit) .hygieneTimeLimitExpiry
    ++ dueIf (Timer.out s.scanner.interval) .scanIntervalExpiry
    ++ dueIf ((s.scanner.conversion.map fun c => decide (c.timeout = 0)).getD false) .conversionTimeout
    ++ (ProbeId.all.map fun n => dueIf (Timer.out (s.probes.get n).holdTimer) (.lockoutHoldExpiry n)).flatten

/-- The part with no command waiting. Under the RESET pin it stays as it is. Else one event that is due is carried out, a
free value picking it where several are due (safe: log entry 6), and where none is due one crystal period passes. -/
def State.idle (s : State) : Result :=
  if s.pins.resetLow then .next s
  else
    match s.due with
    | [] => .next s.tick
    | [i] => exec i s
    | i :: j :: rest =>
      exec ((i :: j :: rest).getD (Config.eventPick s.choices % (i :: j :: rest).length) i) s.chosen

end Sys2Proof.Machine
end

