-- ==== Sys2Proof/Machine/Step.lean ====
section
/-!
DEFINITION. One step of the part: the oldest waiting command, or the idle step; and a command of the opcode table put in
front of the queue.
-/

namespace Sys2Proof.Machine

/-- One step: the command at the front of the queue is carried out with the rest left waiting; with none waiting, the idle
step (DESIGN CHOICE, unsafe: log entry 1). -/
def step (s : State) : Host.Outcome State Fault Refusal :=
  match s.pending with
  | [] => s.idle
  | c :: rest => exec c { s with pending := rest }

/-- The state with the command a word spells put at the front of its queue; as it is where the word spells none. -/
def State.withFetchWord (s : State) (nbits w : Nat) : State :=
  match decodeTableWord nbits w with
  | none => s
  | some c => { s with pending := c :: s.pending }

end Sys2Proof.Machine
end

