-- ==== Sys2Proof/Safety.lean ====
section
/-!
DEFINITION. What the spec says is true of the part between any two events, one predicate for each kind of state, and how a
link request reaches the Link Controller. The statements for the provers are made in these terms.
-/

namespace Sys2Proof.Machine

/-! ### Taking a request -/

/-- The part takes a message now, from a state that leaves `t` to work on: it is running, no RESET is waiting to take
effect, and the message is the oldest of the receive queue, or the queue is empty and the message has just completed
(R166, R169, R174; log entry 3). -/
def State.Taking (s : State) (m : Message) (t : State) : Prop :=
  s.pins.resetLow = false ∧ s.link.resetPending = none ∧
    (s.link.queue = [] ∧ t = s ∨
      ∃ rest, s.link.queue = m :: rest ∧ t = { s with link := { s.link with queue := rest } })

/-- The part cannot take a message now: a RESET is waiting to take effect, or another message is the oldest of the receive
queue (R166, R169, R174). -/
def State.Waiting (s : State) (m : Message) : Prop :=
  s.pins.resetLow = false ∧
    (s.link.resetPending ≠ none ∨ ∃ q rest, s.link.queue = q :: rest ∧ q ≠ m)

/-- A state whose Link Controller has sent the given bytes. -/
def State.sent (s : State) (bytes : List Byte) : State := { s with link := { s.link with txd := bytes } }

/-- A state that differs at most in the Charge Arbiter, the Hygiene Monitor, the notice flags and the count of free choices:
what ending, holding, suspending and resuming grants may touch (00_scope, "The blocks"). The enable mask is kept, and a
flag that is set stays set (R181). -/
def State.TouchesGrants (s t : State) : Prop :=
  t = { s with arbiter := t.arbiter, hygiene := t.hygiene, notices := t.notices, choices := t.choices }
    ∧ t.notices.mask = s.notices.mask
    ∧ ∀ i, s.notices.flags.getLsbD i = true → t.notices.flags.getLsbD i = true

/-- A short answer to a kind on a channel: ident, status, value and check (R161, R170). -/
def shortAnswer (kind : BitVec 5) (ch : Channel) (status value : Byte) : List Byte :=
  [kind ++ ch, status, value, crc8 [kind ++ ch, status, value]]

/-- A long answer to a kind on a channel: ident, count, check, payload of status, value and body, and checksum, low byte
first (R161, R163, R170). -/
def longAnswer (kind : BitVec 5) (ch : Channel) (status value : Byte) (body : List Byte) : List Byte :=
  let payload := status :: value :: body
  let low := BitVec.ofNat 8 payload.length
  let high := BitVec.ofNat 8 (payload.length / 256)
  [kind ++ ch, low, high, crc8 [kind ++ ch, low, high]] ++ payload
    ++ [BitVec.ofNat 8 (crc16 payload).toNat, BitVec.ofNat 8 ((crc16 payload).toNat / 256)]

/-- The channels a kind is allowed on (R168). -/
def ChannelAllowed (kind : Nat) (ch : Channel) : Prop :=
  (kind = 0 ∧ ch ≠ 7) ∨ (kind ∈ [6, 7, 19, 20] ∧ ch ≠ 0 ∧ ch ≠ 7)
    ∨ (kind ∈ [1, 2, 3, 4, 5, 8, 9, 10, 11, 12, 13, 14, 15, 16, 17, 18, 21] ∧ ch = 0)

/-- The payload bytes of a long kind (R168). -/
def payloadLength : Nat → Option Nat
  | 16 => some 49 | 17 => some 16 | 18 => some 14 | 19 => some 5 | 20 => some 5 | 21 => some 1
  | _ => none

/-- The answer to a request that a check of R167 stops: its form is its kind's, but short on channel 7 and for the kinds 22
to 31 (R168), and it carries a status alone (R170). -/
def refusalBytes (m : Message) (status : Byte) : List Byte :=
  if m.channel ≠ 7 ∧ m.kind.toNat ∈ [0, 5, 12, 15, 19, 20, 21] then longAnswer m.kind m.channel status 0 []
  else shortAnswer m.kind m.channel status 0

/-- Commands carried out one after another, up to the first that gives no next state. -/
def runAll : List Instr → State → Result
  | [], s => .next s
  | c :: cs, s =>
    match exec c s with
    | .next t => runAll cs t
    | .fault f => .fault f
    | .refused r => .refused r

/-- A long body whose count and checksum are good and whose payload has the given length (checks 1, 2 and 5 of R167). -/
def LongBodyGood (body : LongBody) (payload : List Byte) (length : Nat) : Prop :=
  body = .full payload (crc16 payload) ∧ payload.length = length

/-! ### The Notice Register -/

/-- ATTN is low exactly when a flag is both set and enabled (R181). -/
def State.AttnSound (s : State) : Prop :=
  s.notices.attnLow = true ↔ ∃ i, i < 16 ∧ s.notices.flags.getLsbD i = true ∧ s.notices.mask.getLsbD i = true

/-! ### The Store Model -/

/-- Each stratum warmer than the one beneath by more than the band (R29). -/
def Rising (band : Nat) : List Stratum → Prop
  | a :: b :: rest => a.temp + band < b.temp ∧ Rising band (b :: rest)
  | _ => True

/-- A normal list (R29). -/
def NormalList (band minVolume : Nat) (l : List Stratum) : Prop :=
  Rising band l ∧ (l.length ≤ 1 ∨ ∀ x ∈ l, minVolume ≤ x.volume)

/-- A stratum record within its ranges (R19). -/
def Stratum.InRange (x : Stratum) : Prop :=
  1 ≤ x.volume ∧ x.temp ≤ 11000 ∧ x.age ≤ 65535 ∧ x.dwell ≤ 255

/-- A configuration record within the ranges of R178. -/
def StoreConfig.InRange (c : StoreConfig) : Prop :=
  (1000 ≤ c.volume ∧ c.volume ≤ 15000) ∧ c.initialTemp ≤ 9000 ∧ (6000 ≤ c.tMax ∧ c.tMax ≤ 9500)
    ∧ (100 ≤ c.hysteresis ∧ c.hysteresis ≤ 1000) ∧ (10 ≤ c.mergeBand ∧ c.mergeBand ≤ 300)
    ∧ (10 ≤ c.minStratum ∧ c.minStratum ≤ 500 ∧ c.minStratum ≤ c.volume / 8)
    ∧ c.mains ≤ 4000 ∧ c.ambient ≤ 4000 ∧ c.lossFactor ≤ 2000 ∧ (1 ≤ c.lossInterval ∧ c.lossInterval ≤ 60)
    ∧ (3500 ≤ c.tUse ∧ c.tUse ≤ 6500) ∧ (3500 ≤ c.tComfort ∧ c.tComfort ≤ 7000) ∧ c.comfortTarget ≤ c.volume
    ∧ c.minHotVolume ≤ c.comfortTarget ∧ (1 ≤ c.productive ∧ c.productive ≤ 1000)
    ∧ (60 ≤ c.solarIdle ∧ c.solarIdle ≤ 3600) ∧ c.minRun ≤ 1800 ∧ (5500 ≤ c.tHyg ∧ c.tHyg ≤ 7500)
    ∧ (1 ≤ c.requiredDwell ∧ c.requiredDwell ≤ 120) ∧ (60 ≤ c.hygieneInterval ∧ c.hygieneInterval ≤ 20160)
    ∧ (30 ≤ c.hygieneLimit ∧ c.hygieneLimit ≤ 480) ∧ c.hygieneFloor ≤ c.volume ∧ c.hygienePort ≤ 6
    ∧ c.auxFloor ≤ c.volume ∧ (10 ≤ c.scanInterval ∧ c.scanInterval ≤ 600)

/-- A configured store between two operations: the list normal, its volumes summing to V, 1 to 32 records (R20, R29), every
record and figure in its range (R19, R64, R65, R178). -/
def Store.Sound (st : Store) : Prop :=
  st.cfg.InRange ∧ volumeOf st.strata = st.cfg.volume ∧ (1 ≤ st.strata.length ∧ st.strata.length ≤ 32)
    ∧ NormalList st.cfg.mergeBand st.cfg.minStratum st.strata ∧ (∀ x ∈ st.strata, x.InRange)
    ∧ st.mains ≤ 4000 ∧ st.ambient ≤ 4000

/-- What a port's entry mode needs of a store of volume V (R75, R77). -/
def Entry.InStore (volume : Nat) : Entry → Prop
  | .coil bottom top => bottom < top ∧ top ≤ volume
  | .lance maximum => 10 ≤ maximum ∧ maximum ≤ volume / 4
  | .element height => height ≤ volume

/-- The store, the heights the ports hold in it, and the readings that may rebuild it (R20, R29, R75, R147). -/
def State.StoreSound (s : State) : Prop :=
  ∀ st, s.store = some st →
    st.Sound ∧ (∀ p c, (s.port p).config = some c → c.entry.InStore st.cfg.volume)
      ∧ (∀ n c, (s.probes.get n).config = some c → c.height ≤ st.cfg.volume)
      ∧ (∀ n r, (s.probes.get n).last = some r → r ≤ 11000)

/-! ### The Charge Arbiter -/

/-- A NORMAL grant that is SUSPENDED stands at a port (R88). -/
def Arbiter.SuspendedAt (a : Arbiter) (p : PortId) : Prop :=
  ∃ g n, a.grants.get p = some g ∧ g.cls = .normal n ∧ n.suspended = true

/-- A port's grant is one its configuration allows: MUST_TAKE on a must-take kind alone (R76, R91). -/
def Source.Admits : Source → GrantClass → Prop
  | .mustTake _, .mustTake _ => True
  | .auxiliary _ _, .normal _ => True
  | .auxiliary _ _, .hygiene => True
  | .mustTake _, .normal _ => False
  | .mustTake _, .hygiene => False
  | .auxiliary _ _, .mustTake _ => False

/-- The grant record of a port is one the rules admit: a store and a kind stand behind it (R83), its class is its kind's
(R76), its handle names the port and is not its last end's (R89), and a NORMAL grant has Wh of its budget left (R53). -/
def State.GrantSound (s : State) (p : PortId) (g : Grant) : Prop :=
  s.store.isSome ∧ (∃ c, (s.port p).config = some c ∧ c.source.Admits g.cls)
    ∧ g.handle.toNat % 16 = p.number ∧ (∀ e, (s.port p).lastEnd = some e → e.handle ≠ g.handle)
    ∧ g.delivered ≤ 4294967295 ∧ g.declaredSupply ≤ 11000
    ∧ (∀ n, g.cls = .normal n → g.delivered < n.budget ∧ n.budget ≤ 65535)

/-- Every unretired grant is one the rules admit (R76, R83, R88, R89). -/
def State.GrantsSound (s : State) : Prop := ∀ p g, s.grant p = some g → s.GrantSound p g

/-- The resume list, the marks and solar-active agree (R113 to R118, R122): the list holds each SUSPENDED grant once and no
other, at most 4, and is empty while solar-active is clear or a comfort emergency is set; a mark stands only on an ACTIVE
grant whose minimum run is running, under solar-active and outside an emergency; the idle timer runs exactly under
solar-active, and a MUST_TAKE grant is then unretired. -/
def State.ResumeSound (s : State) : Prop :=
  let a := s.arbiter
  a.resume.Nodup ∧ a.resume.length ≤ 4 ∧ (∀ p, p ∈ a.resume ↔ a.SuspendedAt p)
    ∧ (a.solarActive = false → a.resume = []) ∧ (a.comfortEmergency = true → a.resume = [])
    ∧ (∀ p g n, a.grants.get p = some g → g.cls = .normal n → n.suspendPending = true →
        a.solarActive = true ∧ a.comfortEmergency = false ∧ n.minRun ≠ none ∧ n.suspended = false)
    ∧ (∀ p g n, a.grants.get p = some g → g.cls = .normal n → n.suspended = true → n.minRun = none)
    ∧ (a.solarActive = true ↔ a.solarIdle ≠ none)
    ∧ (a.solarActive = true → ∃ p g held, a.grants.get p = some g ∧ g.cls = .mustTake held)

/-- While overheat is set every unretired grant is a MUST_TAKE grant in state HELD, and no grant is HELD otherwise (R88,
R125, R126). -/
def State.OverheatSound (s : State) : Prop :=
  ∀ p g, s.grant p = some g →
    (s.arbiter.overheat = true → g.cls = .mustTake true) ∧ (s.arbiter.overheat = false → g.cls ≠ .mustTake true)

/-- In HOLIDAY no NORMAL grant is unretired and no comfort emergency is set (R109, R121). -/
def State.HolidaySound (s : State) : Prop :=
  s.mode = .holiday →
    s.arbiter.comfortEmergency = false ∧ ∀ p g n, s.grant p = some g → g.cls ≠ .normal n

/-! ### The Hygiene Monitor -/

/-- IN_PROGRESS exactly when a HYGIENE grant is unretired, never two of them, and the time limit runs exactly then
(R131). -/
def State.HygieneSound (s : State) : Prop :=
  (s.hygiene.state = .inProgress ↔ ∃ p g, s.grant p = some g ∧ g.cls = .hygiene)
    ∧ (∀ p q g h, s.grant p = some g → s.grant q = some h → g.cls = .hygiene → h.cls = .hygiene → p = q)
    ∧ (s.hygiene.limit ≠ none ↔ s.hygiene.state = .inProgress)

/-! ### The Reconciler -/

/-- The counts of a probe stand within R147 and agree with its state, the agree count being 0 in OFF, FAULT and LOCKOUT; a
probe never configured is OFF (R147, R148, R152, R153, R155 to R157). -/
def Probe.Sound (p : Probe) : Prop :=
  p.limited ≤ 3 ∧ p.silent ≤ 3 ∧ (p.limited = 3 ↔ p.state = .lockout) ∧ (p.holdTimer ≠ none → p.state = .lockout)
    ∧ (p.state ≠ .seeking → p.state ≠ .locked → p.agree = 0)
    ∧ (∀ c, p.config = some c →
        1 ≤ c.lockCount ∧ -(c.bound : Int) ≤ p.cumulative ∧ p.cumulative ≤ c.bound
          ∧ (p.state = .seeking → p.agree < c.lockCount) ∧ (p.state = .locked → p.agree = c.lockCount))
    ∧ (p.config = none → p.state = .off ∧ p.cumulative = 0)

/-- Every probe record stands within R147. -/
def State.ProbesSound (s : State) : Prop := ∀ n, (s.probes.get n).Sound

/-! ### The Link Controller -/

/-- The bytes a framing state holds are those it may hold (R164). -/
def Framing.Sound : Framing → Prop
  | .idle => True
  | .header bytes => 1 ≤ bytes.length ∧ bytes.length ≤ 3
  | .payload kind _ count bytes =>
    16 ≤ kind.toNat ∧ 1 ≤ count ∧ count ≤ 1024 ∧ bytes.length < count + 2
  | .hunt => True

/-- The Link Controller between two events: at most 2 messages wait, each as reception leaves it (R164, R166), and the
stall timer runs exactly outside IDLE (R165). -/
def Link.Sound (l : Link) : Prop :=
  l.queue.length ≤ 2 ∧ (∀ m ∈ l.queue, m.wf = true) ∧ l.framing.Sound ∧ (l.stall = none ↔ l.framing = .idle)

/-- The Link Controller is sound, and the waiting commands are commands the spec admits. -/
def State.LinkSound (s : State) : Prop := s.link.Sound ∧ ∀ c ∈ s.pending, c.wf = true

end Sys2Proof.Machine
end

