-- ==== Sys2Proof/Certificates/Slice0/Obligations.lean ====
section
/-!
DEFINITION. The statements for the provers, in the terms of Sys2Proof/Safety.lean. Each docstring names the rules it rests
on; a clause that rests on a choice of the model says so and names its log entry.
-/

section

open Sys2Proof Sys2Proof.Machine

/-! ## The step and the queue -/

/-- One step takes the command at the front of the queue and carries it out with the rest left waiting. The queue of
commands is the model's (INVENTORY, "The model's own"). -/
def Obligations.StepRunsTheFrontCommand : Prop :=
  ∀ (c : Instr) (s : State) (rest : List Instr), s.pending = c :: rest → step s = exec c { s with pending := rest }

/-- With no command waiting: under the RESET pin nothing happens; else the one event due is carried out, one of them where
several are due, and where none is due a crystal period passes. Due are the effect of an answered RESET, else the oldest
waiting message; a timer with no period left, each by its own expiry; and a correction sent and not taken. The model's choice
(log entries 1 and 6). -/
def Obligations.EmptyQueueRunsDueEventOrTicks : Prop :=
  (∀ s : State, s.pending = [] →
      (s.pins.resetLow = true → step s = .next s)
        ∧ (s.pins.resetLow = false →
            (s.due = [] → step s = .next s.tick)
              ∧ (∀ i, s.due = [i] → step s = exec i s)
              ∧ (∀ i j rest, s.due = i :: j :: rest → ∃ k ∈ s.due, step s = exec k { s with choices := s.choices + 1 })))
    ∧ ∀ (s : State) (i : Instr), i ∈ s.due ↔
        (s.link.resetPending = some .grants ∧ i = .resetGrantsTakesEffect)
          ∨ (s.link.resetPending = some .full ∧ i = .resetFullTakesEffect)
          ∨ (s.link.resetPending = none ∧ ∃ m rest, s.link.queue = m :: rest ∧ m.command = some i)
          ∨ (s.link.stall = some 0 ∧ i = .stallExpiry)
          ∨ (s.corrections ≠ [] ∧ i = .probeCorrection)
          ∨ (∃ st, s.store = some st
              ∧ (st.lossTimer = 0 ∧ i = .lossIntervalExpiry ∨ st.minuteTimer = 0 ∧ i = .hygieneMinuteExpiry))
          ∨ (∃ p g, s.grant p = some g
              ∧ (g.liveness = 0 ∧ i = .livenessExpiry p
                ∨ ∃ n, g.cls = .normal n ∧ n.minRun = some 0 ∧ i = .minRunExpiry p))
          ∨ (s.arbiter.solarIdle = some 0 ∧ i = .solarIdleExpiry)
          ∨ (s.hygiene.limit = some 0 ∧ i = .hygieneTimeLimitExpiry)
          ∨ (s.scanner.interval = some 0 ∧ i = .scanIntervalExpiry)
          ∨ (∃ c, s.scanner.conversion = some c ∧ c.timeout = 0 ∧ i = .conversionTimeout)
          ∨ (∃ n, (s.probes.get n).holdTimer = some 0 ∧ i = .lockoutHoldExpiry n)

/-- A crystal period takes one from the periods left on every timer that runs, leaves a stopped timer stopped, and changes
nothing else (R18). That every timer counts each period from its own start, and that a step stands for one period, are the
model's (log entries 27 and 1). -/
def Obligations.CrystalPeriodCountsTimersAlone : Prop :=
  ∀ s : State,
    s.tick =
        { s with
          store := s.tick.store, arbiter := { s.arbiter with grants := s.tick.arbiter.grants, solarIdle := s.arbiter.solarIdle.map (· - 1) }
          hygiene := { s.hygiene with limit := s.hygiene.limit.map (· - 1) }
          scanner := { s.scanner with
            conversion := s.scanner.conversion.map fun c => { c with timeout := c.timeout - 1 }
            interval := s.scanner.interval.map (· - 1) }
          probes := s.tick.probes
          link := { s.link with stall := s.link.stall.map (· - 1) } }
      ∧ (s.tick.store = s.store.map fun st =>
          { st with lossTimer := st.lossTimer - 1, minuteTimer := st.minuteTimer - 1 })
      ∧ (∀ p, s.grant p = none → s.tick.grant p = none)
      ∧ (∀ p g, s.grant p = some g → ∃ h, s.tick.grant p = some h ∧ h.liveness = g.liveness - 1
          ∧ h.handle = g.handle ∧ h.delivered = g.delivered ∧ h.declaredSupply = g.declaredSupply
          ∧ (∀ held, g.cls = .mustTake held → h.cls = .mustTake held) ∧ (g.cls = .hygiene → h.cls = .hygiene)
          ∧ (∀ n, g.cls = .normal n → h.cls = .normal { n with minRun := n.minRun.map (· - 1) }))
      ∧ (∀ n, s.tick.probes.get n = { s.probes.get n with holdTimer := (s.probes.get n).holdTimer.map (· - 1) })

/-! ## Messages and their bytes -/

/-- Messages and commands agree, and no word of the opcode table's bits spells a command: every message reception can leave
stands for a command that carries it, and every command the spec admits that carries a message is the command of that
message, but for a PROBE_CLEAR row whose sum names an earlier action too (R161, R168, R172; log entry 15). -/
def Obligations.MessagesAndCommandsAgree : Prop :=
  (∀ (nbits w : Nat) (s : State), decodeTableWord nbits w = none ∧ s.withFetchWord nbits w = s)
    ∧ (∀ m : Message, m.wf = true → ∃ c, m.command = some c ∧ c.message = some m)
    ∧ (∀ (c : Instr) (m : Message), c.wf = true → c.message = some m → (∀ ch p0 p1, c ≠ .clearMinMax ch p0 p1) →
        (∀ ch p0 p1, c ≠ .clearAlarm ch p0 p1) → m.command = some c)
    ∧ (∀ (ch : Channel) (p0 p1 : Byte), p1.getLsbD 0 = false →
        (p1.getLsbD 1 = true → Message.command ⟨10, ch, .short p0 p1⟩ = some (.clearMinMax ch p0 p1))
          ∧ (p1.getLsbD 1 = false → Message.command ⟨10, ch, .short p0 p1⟩ = some (.clearAlarm ch p0 p1)))

/-- The bytes of a message, received one after another from IDLE, become that message at the back of the receive
queue, framing is IDLE again (HUNT after a header marked for its count), and nothing else changes (R161 to R166). -/
def Obligations.ReceivedBytesBecomeTheMessage : Prop :=
  ∀ (s : State) (m : Message), m.wf = true → s.pins.resetLow = false → s.link.framing = .idle →
    s.link.queue.length < 2 →
    runAll (m.wire.map Instr.rxByte) s =
      .next { s with link := { s.link with
        framing := if m.badCount then .hunt else .idle
        stall := if m.badCount then some 656 else none
        queue := s.link.queue ++ [m] } }

/-! ## Resets and pins -/

/-- What reset leaves: no store and UNCONFIGURED (R39), no port configured, no total, no last end (R87), no grant and an
empty resume list with solar-active, overheat and the emergency clear (R112), F and M 0 (R15), hygiene CLEAR (R131), the
Scanner idle and every probe OFF with nothing held (R160), the link in HUNT with its stall timer started and nothing queued
(R174), every notice clear, every bit of the mask set and ATTN released (R181). -/
def Obligations.ResetLeavesThePowerOnState : Prop :=
  State.reset.store = none ∧ State.reset.mode = .unconfigured ∧ State.reset.corrections = []
    ∧ (∀ p, State.reset.port p = { config := none, absorbed := 0, ungranted := 0, lastEnd := none }
        ∧ State.reset.grant p = none)
    ∧ State.reset.arbiter.resume = [] ∧ State.reset.arbiter.solarActive = false ∧ State.reset.arbiter.solarIdle = none
    ∧ State.reset.arbiter.overheat = false ∧ State.reset.arbiter.comfortEmergency = false
    ∧ State.reset.arbiter.forecast = 0 ∧ State.reset.arbiter.mustTakeHeat = 0
    ∧ State.reset.hygiene = { state := .clear, limit := none }
    ∧ State.reset.scanner = { conversion := none, rescanPending := false, interval := none }
    ∧ (∀ n, State.reset.probes.get n =
        { config := none, state := .off, agree := 0, cumulative := 0, limited := 0, silent := 0, last := none
          minimum := none, maximum := none, alarm := false, holdTimer := none })
    ∧ State.reset.link.framing = .hunt ∧ State.reset.link.stall = some 656 ∧ State.reset.link.queue = []
    ∧ State.reset.link.resetPending = none
    ∧ State.reset.notices = { flags := 0x0000#16, mask := 0xFFFF#16, attnLow := false }

/-- POWER_ON and the RESET pin put every block in the state reset leaves, POWER_ON and the pin's release reading the straps
(R39, R161, R174, R180). While the pin is low no command but power and the pins has an effect, and a release of a pin that is
not low changes nothing: the model's choice (log entry 18). -/
def Obligations.PowerOnAndResetPinResetEveryBlock : Prop :=
  (∀ (c : Instr) (s : State), s.pins.resetLow = true → c ≠ .powerOn → c ≠ .resetPinLow → c ≠ .resetPinRelease →
      (∀ r1 r0, c ≠ .rateStrapChange r1 r0) → exec c s = .next s)
    ∧ ∀ s : State,
    exec .powerOn s = .next
        { State.reset with
          pins := s.pins, pending := s.pending, choices := s.choices
          link := { State.reset.link with rate := .ofStraps s.pins.rate1 s.pins.rate0 } }
      ∧ exec .resetPinLow s = .next
        { State.reset with
          pins := { s.pins with resetLow := true }, pending := s.pending, choices := s.choices
          link := { State.reset.link with rate := s.link.rate } }
      ∧ (s.pins.resetLow = true → exec .resetPinRelease s = .next
        { State.reset with
          pins := { s.pins with resetLow := false }, pending := s.pending, choices := s.choices
          link := { State.reset.link with rate := .ofStraps s.pins.rate1 s.pins.rate0 } })
      ∧ (s.pins.resetLow = false → exec .resetPinRelease s = .next s)

/-- The bit rate is read from the straps at power-on and at the release of the RESET pin; no other command changes it, and
a change of the straps changes the levels alone (R161). That a release of a pin that is not low is none, and reads nothing,
is the model's reading (log entry 18). -/
def Obligations.BitRateIsReadAtPowerOnAndReleaseAlone : Prop :=
  (∀ (c : Instr) (s t : State), exec c s = .next t → c ≠ .powerOn → c ≠ .resetPinRelease → t.link.rate = s.link.rate)
    ∧ (∀ s : State, ∃ t, exec .powerOn s = .next t ∧ t.link.rate = .ofStraps s.pins.rate1 s.pins.rate0)
    ∧ (∀ s : State, s.pins.resetLow = true →
        ∃ t, exec .resetPinRelease s = .next t ∧ t.link.rate = .ofStraps s.pins.rate1 s.pins.rate0)
    ∧ (∀ s : State, s.pins.resetLow = false → exec .resetPinRelease s = .next s)
    ∧ (∀ (s : State) (r1 r0 : Bool),
        exec (.rateStrapChange r1 r0) s = .next { s with pins := { s.pins with rate1 := r1, rate0 := r0 } })
    ∧ BitRate.ofStraps false false = .r19200 ∧ BitRate.ofStraps false true = .r57600
    ∧ BitRate.ofStraps true false = .r115200 ∧ BitRate.ofStraps true true = .r230400

/-- A RESET request is answered OK and waits to take effect, or is answered ERR_RANGE for another scope; a FULL one in
effect leaves every block as at power-on and the queue empty, with HUNT where a message was being received and IDLE where
none was; and an effect with no such RESET waiting changes nothing (R174, R180; the timer in HUNT and the last clause are
the model's, log entries 16 and 17). -/
def Obligations.ResetRequestAndFullReset : Prop :=
  (∀ (s t : State) (p0 p1 : Byte), s.Taking ⟨14, 0, .short p0 p1⟩ t →
      (p0 = 0 → exec (.reset 0 p0 p1) s =
        .next (State.sent { t with link := { t.link with resetPending := some .grants } } (shortAnswer 14 0 0 0)))
        ∧ (p0 = 1 → exec (.reset 0 p0 p1) s =
          .next (State.sent { t with link := { t.link with resetPending := some .full } } (shortAnswer 14 0 0 0)))
        ∧ (1 < p0.toNat → exec (.reset 0 p0 p1) s = .next (t.sent (shortAnswer 14 0 8 0))))
    ∧ (∀ s : State, s.pins.resetLow = false → s.link.resetPending = some .full →
        exec .resetFullTakesEffect s = .next
          { State.reset with
            pins := s.pins, pending := s.pending, choices := s.choices
            link := { s.link with
              queue := [], resetPending := none
              framing := match s.link.framing with
                | .header _ => .hunt | .payload _ _ _ _ => .hunt | .idle => .idle | .hunt => .idle
              stall := match s.link.framing with
                | .header _ => s.link.stall | .payload _ _ _ _ => s.link.stall | .idle => none | .hunt => none } })
    ∧ (∀ s : State, s.link.resetPending ≠ some .full → exec .resetFullTakesEffect s = .next s)
    ∧ (∀ s : State, s.link.resetPending ≠ some .grants → exec .resetGrantsTakesEffect s = .next s)

/-- A RESET of scope GRANTS in effect: corrections still waiting are carried out first (log entry 13), and then every grant has retired RESET_GRANTS into its port's last
end, nothing of a port is changed otherwise, the resume list is empty, solar-active and the emergency are clear, a run in
progress is DUE again, overheat stands as its tests find it, exactly the flags of these events are added, F, M, the store and
the probes are kept, and the link holds nothing queued, in HUNT where a message was being received and IDLE where none was
(the timer in HUNT is log entry 17; R81, R101, R102, R111, R113, R121, R128, R137, R174). -/
def Obligations.GrantsResetEndsEveryGrant : Prop :=
  (∀ s : State, s.pins.resetLow = false → s.link.resetPending = some .grants →
      exec .resetGrantsTakesEffect s = exec .resetGrantsTakesEffect s.settleCorrections)
    ∧ ∀ s : State, s.pins.resetLow = false → s.link.resetPending = some .grants → s.corrections = [] → s.HygieneSound →
    (∀ p ∈ s.arbiter.resume, s.grant p ≠ none) →
    ∃ u, exec .resetGrantsTakesEffect s = .next u
      ∧ u = { s with
          link := u.link, arbiter := u.arbiter, hygiene := u.hygiene, notices := u.notices }
      ∧ (∀ p, u.grant p = none)
      ∧ (∀ p, s.grant p = none → u.port p = s.port p)
      ∧ (∀ p g, s.grant p = some g →
          u.port p = { s.port p with lastEnd := some { handle := g.handle, reason := .resetGrants } })
      ∧ u.arbiter.resume = [] ∧ u.arbiter.solarActive = false ∧ u.arbiter.solarIdle = none
      ∧ u.arbiter.comfortEmergency = false ∧ u.arbiter.forecast = s.arbiter.forecast
      ∧ u.arbiter.mustTakeHeat = s.arbiter.mustTakeHeat
      ∧ u.hygiene = (if s.hygiene.state = .inProgress then { state := .due, limit := none } else s.hygiene)
      ∧ (s.store = none → u.arbiter.overheat = s.arbiter.overheat)
      ∧ (∀ st, s.store = some st → s.arbiter.overheat = false →
          (u.arbiter.overheat = true ↔
            st.cfg.tMax ≤ topTemp st.strata ∨ ∃ n, (s.probes.get n).alarm = true))
      ∧ (∀ st, s.store = some st → s.arbiter.overheat = true →
          (u.arbiter.overheat = false ↔
            topTemp st.strata ≤ st.cfg.tMax - st.cfg.hysteresis ∧ ∀ n, (s.probes.get n).alarm = false))
      ∧ u.notices.mask = s.notices.mask
      ∧ u.notices.flags = s.notices.flags
          ||| (if s.arbiter.anyGrant then Notice.grantEnded.word else 0)
          ||| (if s.hygiene.state = .inProgress then Notice.hygieneFailed.word else 0)
          ||| (if s.arbiter.solarActive then Notice.solarChanged.word else 0)
          ||| (if s.arbiter.overheat = false ∧ u.arbiter.overheat = true then Notice.overheatSet.word else 0)
          ||| (if s.arbiter.overheat = true ∧ u.arbiter.overheat = false then Notice.overheatCleared.word else 0)
      ∧ u.link = { s.link with
          queue := [], resetPending := none
          framing := match s.link.framing with
            | .header _ => .hunt | .payload _ _ _ _ => .hunt | .idle => .idle | .hunt => .idle
          stall := match s.link.framing with
            | .header _ => s.link.stall | .payload _ _ _ _ => s.link.stall | .idle => none | .hunt => none }

/-! ## Reception -/

/-- A byte, a byte with a framing fault and the stall expiry in each framing state, where no message ends: held bytes,
HUNT, IDLE, LINK_ERROR for a partial message lost, and the stall timer restarted by every byte (R164, R165). A stall expiry
with the timer stopped changes nothing (R18). -/
def Obligations.FramingStatesFollowTheTable : Prop :=
  ∀ s : State, s.pins.resetLow = false →
    (∀ b, s.link.framing = .idle →
        exec (.rxByte b) s = .next { s with link := { s.link with framing := .header [b], stall := some 656 } })
      ∧ (∀ b bs, s.link.framing = .header bs → bs.length < 3 →
        exec (.rxByte b) s = .next { s with link := { s.link with framing := .header (bs ++ [b]), stall := some 656 } })
      ∧ (∀ b k ch n bs, s.link.framing = .payload k ch n bs → bs.length < n + 1 →
        exec (.rxByte b) s =
          .next { s with link := { s.link with framing := .payload k ch n (bs ++ [b]), stall := some 656 } })
      ∧ (∀ b, s.link.framing = .hunt → exec (.rxByte b) s = .next { s with link := { s.link with stall := some 656 } })
      ∧ (s.link.framing ≠ .hunt → exec .rxFramingFault s =
          .next { s with
            notices := s.notices.raise .linkError, link := { s.link with framing := .hunt, stall := some 656 } })
      ∧ (s.link.framing = .hunt →
          exec .rxFramingFault s = .next { s with link := { s.link with stall := some 656 } })
      ∧ (s.link.stall = none → exec .stallExpiry s = .next s)
      ∧ (s.link.stall ≠ none → (s.link.framing = .hunt ∨ s.link.framing = .idle) →
          exec .stallExpiry s = .next { s with link := { s.link with framing := .idle, stall := none } })
      ∧ (s.link.stall ≠ none → s.link.framing ≠ .hunt → s.link.framing ≠ .idle →
          exec .stallExpiry s = .next { s with
            notices := s.notices.raise .linkError, link := { s.link with framing := .idle, stall := none } })

/-- The byte that ends a header or a message: a bad header check is LINK_ERROR and HUNT; a good short header is a message; a
good long header enters PAYLOAD, or is a marked message for a count of 0 or above 1 024; the second checksum byte makes the
long message; and a message that completes joins a queue of fewer than two, or is lost with LINK_ERROR (R164, R166). -/
def Obligations.LastByteMakesTheMessage : Prop :=
  ∀ s : State, s.pins.resetLow = false →
    (∀ b0 b1 b2 b, s.link.framing = .header [b0, b1, b2] →
        (b ≠ crc8 [b0, b1, b2] → exec (.rxByte b) s = .next { s with
            notices := s.notices.raise .linkError, link := { s.link with framing := .hunt, stall := some 656 } })
        ∧ (b = crc8 [b0, b1, b2] → b0.toNat < 128 → exec (.rxByte b) s =
            .next (State.offer { s with link := { s.link with framing := .idle, stall := none } }
              ⟨BitVec.ofNat 5 (b0.toNat / 8), BitVec.ofNat 3 b0.toNat, .short b1 b2⟩))
        ∧ (b = crc8 [b0, b1, b2] → 128 ≤ b0.toNat → (b1.toNat + 256 * b2.toNat = 0 ∨ 1024 < b1.toNat + 256 * b2.toNat) →
            exec (.rxByte b) s =
              .next (State.offer { s with link := { s.link with framing := .hunt, stall := some 656 } }
                ⟨BitVec.ofNat 5 (b0.toNat / 8), BitVec.ofNat 3 b0.toNat,
                  .long (.marked (BitVec.ofNat 16 (b1.toNat + 256 * b2.toNat)))⟩))
        ∧ (b = crc8 [b0, b1, b2] → 128 ≤ b0.toNat → 1 ≤ b1.toNat + 256 * b2.toNat → b1.toNat + 256 * b2.toNat ≤ 1024 →
            exec (.rxByte b) s = .next { s with link := { s.link with
              framing := .payload (BitVec.ofNat 5 (b0.toNat / 8)) (BitVec.ofNat 3 b0.toNat)
                (b1.toNat + 256 * b2.toNat) []
              stall := some 656 } }))
      ∧ (∀ k ch payload (lo hi : Byte), s.link.framing = .payload k ch payload.length (payload ++ [lo]) →
          exec (.rxByte hi) s =
            .next (State.offer { s with link := { s.link with framing := .idle, stall := none } }
              ⟨k, ch, .long (.full payload (BitVec.ofNat 16 (lo.toNat + 256 * hi.toNat)))⟩))
      ∧ (∀ m : Message, s.link.queue.length < 2 →
          s.offer m = { s with link := { s.link with queue := s.link.queue ++ [m] } })
      ∧ (∀ m : Message, 2 ≤ s.link.queue.length → s.offer m = { s with notices := s.notices.raise .linkError })

/-! ## Taking a request -/

/-- A request that cannot be taken now joins the receive queue, or is lost with LINK_ERROR where two already wait; its
block does nothing (R166, R169, R174; that a request's command may itself hand over its message is log entry 3). -/
def Obligations.WaitingRequestJoinsTheQueue : Prop :=
  ∀ (c : Instr) (m : Message) (s : State), c.message = some m → s.Waiting m →
    (s.link.queue.length < 2 → exec c s = .next { s with link := { s.link with queue := s.link.queue ++ [m] } })
      ∧ (2 ≤ s.link.queue.length → exec c s = .next { s with notices := s.notices.raise .linkError })

/-- The six checks of R167 in their order: the first that fails answers with its status, and nothing else of the state
changes. -/
def Obligations.LinkChecksAnswerInOrder : Prop :=
  ∀ (c : Instr) (m : Message) (s t : State), c.message = some m → s.Taking m t →
    (∀ n, m.content = .long (.marked n) → exec c s = .next (t.sent (refusalBytes m 5)))
      ∧ (∀ p k, m.content = .long (.full p k) → 1 ≤ p.length → p.length ≤ 1024 → k ≠ crc16 p →
          exec c s = .next (t.sent (refusalBytes m 4)))
      ∧ (∀ p, m.content = .long (.full p (crc16 p)) → 1 ≤ p.length → p.length ≤ 1024 → 22 ≤ m.kind.toNat →
          exec c s = .next (t.sent (refusalBytes m 6)))
      ∧ (∀ p0 p1, m.content = .short p0 p1 → ¬ChannelAllowed m.kind.toNat m.channel →
          exec c s = .next (t.sent (refusalBytes m 7)))
      ∧ (∀ p, m.content = .long (.full p (crc16 p)) → 1 ≤ p.length → p.length ≤ 1024 → m.kind.toNat < 22 →
          ¬ChannelAllowed m.kind.toNat m.channel → exec c s = .next (t.sent (refusalBytes m 7)))
      ∧ (∀ p n, m.content = .long (.full p (crc16 p)) → 1 ≤ p.length → p.length ≤ 1024 →
          payloadLength m.kind.toNat = some n → ChannelAllowed m.kind.toNat m.channel → p.length ≠ n →
          exec c s = .next (t.sent (refusalBytes m 5)))
      ∧ (∀ b : Byte, m.content = .long (.full [b] (crc16 [b])) → m.kind = 21 → m.channel = 0 → 4 < b.toNat →
          exec c s = .next (t.sent (refusalBytes m 8)))

/-- While there is no store, every request that passes the checks, but for the five kinds taken in UNCONFIGURED, is answered
NOT_CONFIGURED with the form and body of its kind, and nothing else of the state changes (R170, R176; R57 and R99 for the
bodies of DEPOSIT and REQUEST_CHARGE). -/
def Obligations.UnconfiguredRequestsChangeNothing : Prop :=
  ∀ (c : Instr) (m : Message) (s t : State), c.message = some m → s.Taking m t → m.failedCheck = none →
    t.store = none → m.kind.toNat ∉ [0, 12, 13, 14, 16] →
    (m.kind.toNat ∈ [5, 15, 21] → exec c s = .next (t.sent (longAnswer m.kind m.channel 2 0 [])))
      ∧ (m.kind.toNat = 20 → exec c s =
          .next (t.sent (longAnswer m.kind m.channel 2 0 [0, 0, 0, 0, 0, 0, 0, 0, 0, 0, 0, 0])))
      ∧ (m.kind.toNat = 19 → exec c s = .next (t.sent (longAnswer m.kind m.channel 2 0 [0xFF, 0, 0, 0])))
      ∧ (m.kind.toNat ∉ [5, 15, 19, 20, 21] → exec c s = .next (t.sent (shortAnswer m.kind m.channel 2 0)))

/-! ## Requests to the Store Model -/

/-- IDENTIFY is answered on channels 0 to 6 in every store mode with the ten bytes of R173, and changes nothing but the
bytes sent. -/
def Obligations.IdentifyAnswersInEveryMode : Prop :=
  ∀ (s t : State) (ch : Channel) (p0 p1 : Byte), s.Taking ⟨0, ch, .short p0 p1⟩ t → ch ≠ 7 →
    exec (.identify ch p0 p1) s = .next (t.sent (longAnswer 0 ch 0 0
      [0x3A, 0x78, 0x02, 1, 32, 6, 8, 4, 2,
        match t.mode with | .unconfigured => 0 | .running => 1 | .holiday => 2]))

/-- SET_MAINS and SET_AMBIENT hold the value sent clamped to 0 to 4 000, SET_FORECAST sets F and zeroes M, each answered OK
with value 0, and nothing else changes: no stratum, no timer, no report (R1, R15, R64, R65). -/
def Obligations.HeldFiguresAreSet : Prop :=
  ∀ (s t : State) (p0 p1 : Byte) (st : Store), t.store = some st →
    (s.Taking ⟨3, 0, .short p0 p1⟩ t → exec (.setMains 0 p0 p1) s = .next (State.sent
        { t with store := some { st with mains := min 4000 (p0.toNat + 256 * p1.toNat) } } (shortAnswer 3 0 0 0)))
      ∧ (s.Taking ⟨4, 0, .short p0 p1⟩ t → exec (.setAmbient 0 p0 p1) s = .next (State.sent
        { t with store := some { st with ambient := min 4000 (p0.toNat + 256 * p1.toNat) } } (shortAnswer 4 0 0 0)))
      ∧ (s.Taking ⟨2, 0, .short p0 p1⟩ t → exec (.setForecast 0 p0 p1) s = .next (State.sent
        { t with arbiter := { t.arbiter with forecast := p0.toNat + 256 * p1.toNat, mustTakeHeat := 0 } }
        (shortAnswer 2 0 0 0)))

/-- SET_MODE: a code other than RUNNING or HOLIDAY is ERR_RANGE and changes nothing; to HOLIDAY, every NORMAL grant retires
MODE, the emergency is cleared and nothing else of the blocks changes; to RUNNING, with no NORMAL grant and no emergency
standing, the emergency is entered with COMFORT_LOW exactly when the hot volume is below the minimum (R109, R121, R177). A
code naming the mode in force changes nothing; its value 0 is the model's (log entry 9). -/
def Obligations.SetModeActsOnTheArbiter : Prop :=
  ∀ (s t : State) (p0 p1 : Byte) (st : Store), s.Taking ⟨1, 0, .short p0 p1⟩ t → t.store = some st →
    (p0 ≠ 1 → p0 ≠ 2 → exec (.setMode 0 p0 p1) s = .next (t.sent (shortAnswer 1 0 8 0)))
      ∧ ((p0 = 1 ∧ st.holiday = false ∨ p0 = 2 ∧ st.holiday = true) →
          exec (.setMode 0 p0 p1) s = .next (t.sent (shortAnswer 1 0 0 0)))
      ∧ (p0 = 2 → st.holiday = false → ∃ u : State, exec (.setMode 0 p0 p1) s = .next (u.sent (shortAnswer 1 0 0 2))
          ∧ u = { t with store := some { st with holiday := true }, arbiter := u.arbiter, notices := u.notices }
          ∧ u.arbiter = { t.arbiter with
              ports := u.arbiter.ports, grants := u.arbiter.grants, resume := u.arbiter.resume
              comfortEmergency := false }
          ∧ (∀ p g n, t.grant p = some g → g.cls = .normal n → u.grant p = none
              ∧ u.port p = { t.port p with lastEnd := some { handle := g.handle, reason := .mode } }
              ∧ p ∉ u.arbiter.resume)
          ∧ (∀ p, (∀ g n, t.grant p = some g → g.cls ≠ .normal n) →
              u.grant p = t.grant p ∧ u.port p = t.port p ∧ (p ∈ u.arbiter.resume ↔ p ∈ t.arbiter.resume))
          ∧ (∀ p g n, t.grant p = some g → g.cls = .normal n → u.notices = t.notices.raise .grantEnded)
          ∧ ((∀ p g n, t.grant p = some g → g.cls ≠ .normal n) → u.notices = t.notices))
      ∧ (p0 = 1 → st.holiday = true → t.arbiter.comfortEmergency = false → t.arbiter.resume = [] →
          (∀ p g n, t.grant p = some g → g.cls ≠ .normal n) →
          (st.cfg.minHotVolume ≤ st.hotVolume → exec (.setMode 0 p0 p1) s =
              .next (State.sent { t with store := some { st with holiday := false } } (shortAnswer 1 0 0 1)))
            ∧ (st.hotVolume < st.cfg.minHotVolume → exec (.setMode 0 p0 p1) s =
              .next (State.sent { t with
                store := some { st with holiday := false }
                arbiter := { t.arbiter with comfortEmergency := true }
                notices := t.notices.raise .comfortLow } (shortAnswer 1 0 0 1))))

/-- DRAW: of nothing, it changes nothing; else, clamped to V with DRAW_CLAMPED, room is made for one, the volume leaves the
top, as much at mains with age and dwell 0 enters at the bottom, the list is normalized, the report is acted on, and the
answer gives the volume, the mean and the energy above mains of what was removed (R59 to R62). -/
def Obligations.DrawTakesTheTopAndFillsFromMains : Prop :=
  ∀ (s t : State) (p0 p1 : Byte) (st : Store), s.Taking ⟨5, 0, .short p0 p1⟩ t → t.store = some st →
    let asked := p0.toNat + 256 * p1.toNat
    let drawn := min asked st.cfg.volume
    let room := makeRoom 1 st.strata
    let parts := cut (volumeOf room.1 - drawn) room.1
    let mean := (2 * heatOf parts.2 + drawn) / (2 * drawn)
    let energy := (2 * (heatOf parts.2 - drawn * st.mains) + 860) / (2 * 860)
    (asked = 0 → exec (.draw 0 p0 p1) s = .next (t.sent (longAnswer 5 0 0 0 [0, 0, 0, 0, 0, 0, 0, 0])))
      ∧ (1 ≤ asked → exec (.draw 0 p0 p1) s = .next (State.sent
          (State.modelChanged
            { t with
              store := some { st with strata := st.cfg.normalize (⟨drawn, st.mains, 0, 0⟩ :: parts.1) }
              notices := ((t.raiseIf (decide (st.cfg.volume < asked)) .drawClamped).raiseIf
                (decide (31 < st.strata.length)) .forcedMerge).notices })
          (longAnswer 5 0 0 0 (le 2 drawn ++ le 2 mean ++ le 4 energy))))
      ∧ (st.cfg.volume ≤ asked → volumeOf st.strata = st.cfg.volume → 1 ≤ st.cfg.volume →
          parts.1 = [] ∧ heatOf parts.2 = heatOf room.1
            ∧ st.cfg.normalize (⟨drawn, st.mains, 0, 0⟩ :: parts.1) = [⟨st.cfg.volume, st.mains, 0, 0⟩])

/-- A loss step moves every stratum toward ambient and never past it: the drop is x × k / 65 536 rounded with a half away
from zero, smaller than the distance to ambient, 0 exactly when |x| × k is below 32 768, and the clamp never acts (R68,
R69). -/
def Obligations.LossStepMovesTowardAmbient : Prop :=
  ∀ (ambient k : Nat) (x : Stratum), x.temp ≤ 11000 → ambient ≤ 11000 → k ≤ 2000 →
    let u := coolStratum ambient k x
    (u.volume = x.volume ∧ u.age = x.age ∧ u.dwell = x.dwell)
      ∧ ((u.temp : Int) = (x.temp : Int) - lossDrop ambient k x.temp)
      ∧ (lossDrop ambient k x.temp).natAbs = (((x.temp : Int) - ambient).natAbs * k + 32768) / 65536
      ∧ (ambient < x.temp → ambient < u.temp ∧ u.temp ≤ x.temp)
      ∧ (x.temp < ambient → x.temp ≤ u.temp ∧ u.temp < ambient)
      ∧ (x.temp = ambient → u.temp = ambient)
      ∧ (u.temp = x.temp ↔ ((x.temp : Int) - ambient).natAbs * k < 32768)

/-- The Store Model's two expiries restart their own timer and carry out one operation with its report: every stratum
cooled, or every tracked stratum counted; with no store they do nothing (R67, R68, R72, R73). -/
def Obligations.StoreTimersRunTheirOperations : Prop :=
  (∀ (s : State) (st : Store), s.pins.resetLow = false → s.store = some st →
      exec .lossIntervalExpiry s = .next (State.modelChanged
        { s with store := some { st with
            lossTimer := st.cfg.lossInterval * 60 * 32768
            strata := st.cfg.normalize (st.strata.map (coolStratum st.ambient st.cfg.lossFactor)) } })
      ∧ exec .hygieneMinuteExpiry s = .next (State.modelChanged
        { s with store := some { st with
            minuteTimer := 60 * 32768
            strata := st.cfg.normalize (minuteFrom st.cfg 0 st.strata) } }))
    ∧ (∀ s : State, s.store = none → exec .lossIntervalExpiry s = .next s ∧ exec .hygieneMinuteExpiry s = .next s)
    ∧ (∀ (cfg : StoreConfig) (below above : List Stratum) (x : Stratum),
        let after := minuteFrom cfg 0 (below ++ x :: above)
        let y : Stratum :=
          if cfg.hygieneFloor < volumeOf below + x.volume then
            if cfg.tHyg ≤ x.temp then
              { x with dwell := min (x.dwell + 1) 255, age := if cfg.requiredDwell ≤ min (x.dwell + 1) 255 then 0 else x.age }
            else { x with dwell := 0, age := min (x.age + 1) 65535 }
          else x
        after.length = (below ++ x :: above).length ∧ after[below.length]? = some y)

/-- RESEED: with no usable probe it is answered NO_PROBES and changes nothing; else the list is rebuilt from the usable
readings in height order, normalized, every cumulative correction becomes 0, the report is acted on and the number of strata
is answered. A rebuilt list of rising heights within V holds V, each record 1 dL or more at one of the readings, with the
largest old age and dwell 0, and every dL between two mid-heights stands at its own probe's reading (R34 to R36). -/
def Obligations.ReseedRebuildsFromUsableProbes : Prop :=
  (∀ (s t : State) (p0 p1 : Byte) (st : Store), s.Taking ⟨11, 0, .short p0 p1⟩ t → t.store = some st →
      (t.usableReadings = [] → exec (.reseed 0 p0 p1) s = .next (t.sent (shortAnswer 11 0 14 0)))
        ∧ (t.usableReadings ≠ [] →
            let l := st.cfg.normalize (rebuildFrom st.cfg.volume (maxAge st.strata) 0 t.usableReadings)
            exec (.reseed 0 p0 p1) s = .next (State.sent
              (State.modelChanged
                { t with
                  store := some { st with strata := l }
                  probes := t.probes.map fun p => { p with cumulative := 0 } })
              (shortAnswer 11 0 0 (BitVec.ofNat 8 l.length)))))
    ∧ (∀ (s : State) (h r : Nat), (h, r) ∈ s.usableReadings →
        ∃ n c, (s.probes.get n).config = some c ∧ c.height = h ∧ (s.probes.get n).last = some r
          ∧ ((s.probes.get n).state = .seeking ∨ (s.probes.get n).state = .locked)
          ∧ ∀ k d, (s.probes.get k).config = some d → d.height = h → (s.probes.get k).last ≠ none →
              ((s.probes.get k).state = .seeking ∨ (s.probes.get k).state = .locked) → n.number ≤ k.number)
    ∧ (∀ (s : State) (n : ProbeId) (c : ProbeConfig), (s.probes.get n).config = some c → (s.probes.get n).last ≠ none →
        ((s.probes.get n).state = .seeking ∨ (s.probes.get n).state = .locked) →
        c.height ∈ s.usableReadings.map Prod.fst)
    ∧ (∀ s : State, (s.usableReadings.map Prod.fst).Pairwise (· < ·))
    ∧ (∀ (volume age : Nat) (rs : List (Nat × Nat)), rs ≠ [] → 1 ≤ volume → (rs.map Prod.fst).Pairwise (· < ·) →
        (∀ r ∈ rs, r.1 ≤ volume) →
        let l := rebuildFrom volume age 0 rs
        volumeOf l = volume ∧ l.length ≤ rs.length
          ∧ ∀ x ∈ l, 1 ≤ x.volume ∧ x.age = age ∧ x.dwell = 0 ∧ ∃ r ∈ rs, x.temp = r.2)
    ∧ (∀ (volume age h r : Nat) (below above : List (Nat × Nat)),
        ((below ++ (h, r) :: above).map Prod.fst).Pairwise (· < ·) →
        1 ≤ volume → (∀ x ∈ below ++ (h, r) :: above, x.1 ≤ volume) →
        let bottom := match below.getLast? with | some b => (b.1 + h) / 2 | none => 0
        let top := match above.head? with | some b => (h + b.1) / 2 | none => volume
        ∀ z, bottom ≤ z → z < top →
          (stratumAt z (rebuildFrom volume age 0 (below ++ (h, r) :: above))).map (·.temp) = some r)

/-- CONFIGURE_STORE: a V outside 1 000 to 15 000, a geometry that does not fit and an unretired grant are answered ERR_RANGE,
ERR_RANGE and BUSY and change nothing; else the configuration in range, its tuning fields clamped or at their defaults,
replaces the old one, the store starts as one stratum, the Arbiter, the Monitor and the probes take their starting states,
the Scanner's interval starts, RUNNING or HOLIDAY stands as before, and the report is acted on (R32, R178, R179). That
corrections still waiting are kept is the model's reading (log entry 13). -/
def Obligations.ConfigureStoreStartsTheStore : Prop :=
  ∀ (s t : State) (body : LongBody) (p : List Byte), s.Taking ⟨16, 0, .long body⟩ t → LongBodyGood body p 49 →
    let w (i : Nat) := (p.getD i 0).toNat + 256 * (p.getD (i + 1) 0).toNat
    let tuned (standard lo hi n : Nat) := if n = 65535 then standard else max lo (min n hi)
    let v := w 0
    let cfg : StoreConfig :=
      { volume := v, initialTemp := min (w 2) 9000, tMax := tuned 8000 6000 9500 (w 4)
        hysteresis := tuned 300 100 1000 (w 6), mergeBand := tuned 50 10 300 (w 8), minStratum := tuned 20 10 500 (w 10)
        mains := tuned 1000 0 4000 (w 12), ambient := tuned 2000 0 4000 (w 14), lossFactor := min (w 16) 2000
        lossInterval := tuned 10 1 60 (w 18), tUse := tuned 4500 3500 6500 (w 20), tComfort := tuned 5000 3500 7000 (w 22)
        comfortTarget := w 24, minHotVolume := w 26, productive := tuned 20 1 1000 (w 28)
        solarIdle := tuned 600 60 3600 (w 30), minRun := tuned 300 0 1800 (w 32), tHyg := tuned 6000 5500 7500 (w 34)
        requiredDwell := tuned 30 1 120 (w 36), hygieneInterval := tuned 10080 60 20160 (w 38)
        hygieneLimit := tuned 240 30 480 (w 40), hygieneFloor := w 42, hygienePort := (p.getD 44 0).toNat
        auxFloor := w 45, scanInterval := tuned 60 10 600 (w 47) }
    (v < 1000 ∨ 15000 < v → exec (.configureStore 0 body) s = .next (t.sent (shortAnswer 16 0 8 0)))
      ∧ (1000 ≤ v → v ≤ 15000 →
          ¬(cfg.minStratum ≤ v / 8 ∧ cfg.comfortTarget ≤ v ∧ cfg.hygieneFloor ≤ v ∧ cfg.auxFloor ≤ v
            ∧ cfg.minHotVolume ≤ cfg.comfortTarget ∧ cfg.hygienePort ≤ 6) →
          exec (.configureStore 0 body) s = .next (t.sent (shortAnswer 16 0 8 0)))
      ∧ (cfg.InRange → (∃ q, t.grant q ≠ none) →
          exec (.configureStore 0 body) s = .next (t.sent (shortAnswer 16 0 3 0)))
      ∧ (1000 ≤ v → v ≤ 15000 →
          (cfg.minStratum ≤ v / 8 ∧ cfg.comfortTarget ≤ v ∧ cfg.hygieneFloor ≤ v ∧ cfg.auxFloor ≤ v
            ∧ cfg.minHotVolume ≤ cfg.comfortTarget ∧ cfg.hygienePort ≤ 6) →
          (∀ q, t.grant q = none) →
          cfg.InRange ∧ exec (.configureStore 0 body) s = .next (State.sent
            (State.modelChanged
              { t with
                store := some
                  { cfg := cfg, holiday := decide (t.mode = .holiday), strata := [⟨v, cfg.initialTemp, 0, 0⟩]
                    mains := cfg.mains, ambient := cfg.ambient
                    lossTimer := cfg.lossInterval * 60 * 32768, minuteTimer := 60 * 32768 }
                arbiter := State.reset.arbiter
                hygiene := State.reset.hygiene
                scanner := { State.reset.scanner with interval := some (cfg.scanInterval * 32768) }
                probes := State.reset.probes })
            (shortAnswer 16 0 0 0)))

/-- The readings change nothing but the bytes sent: PROFILE's N temperatures at the middles of N equal slices, the strata of
READ STRATA bottom first, the summary record, and the ports, grants and probes with what follows their records, each record
byte by byte, an absent field all ones (R10, R37, R38, R66, R86, R110, R159, R170, R172, R175). The place of a port's current
handle, the order and codes of READ PROBES, and times left rounded up are the model's reading (log entries 10, 11 and 12). -/
def Obligations.ReadingsChangeNothing : Prop :=
  let absent (n : Nat) : List Byte := List.replicate n 0xFF
  let optional (r : Option Nat) : List Byte := match r with | none => absent 2 | some r => le 2 r
  let yes (b : Bool) : List Byte := if b then [1] else [0]
  (∀ n : Nat, le 1 n = [BitVec.ofNat 8 n] ∧ le 2 n = [BitVec.ofNat 8 n, BitVec.ofNat 8 (n / 256)]
      ∧ le 4 n = [BitVec.ofNat 8 n, BitVec.ofNat 8 (n / 256), BitVec.ofNat 8 (n / 65536), BitVec.ofNat 8 (n / 16777216)]
      ∧ leOrAbsent 1 (some n) = le 1 n ∧ leOrAbsent 1 none = absent 1)
    ∧ (∀ (p : Port) (g : Option Grant), p.record g =
        (match p.config with
          | none => le 1 0 ++ absent 14
          | some c =>
            le 1 (match c.source with
              | .mustTake .solar => 1 | .mustTake .stove => 2 | .auxiliary .heatPump _ => 3 | .auxiliary .boiler _ => 4
              | .auxiliary .immersion _ => 5)
            ++ (match c.entry with
              | .coil bottom top => le 1 1 ++ le 2 bottom ++ le 2 top ++ absent 4
              | .lance maximum => le 1 2 ++ absent 4 ++ le 2 maximum ++ absent 2
              | .element height => le 1 3 ++ absent 6 ++ le 2 height)
            ++ le 2 c.supplyCap ++ (match c.source with | .mustTake _ => absent 1 | .auxiliary _ rank => le 1 rank)
            ++ le 2 c.liveness)
        ++ le 4 p.absorbed ++ le 4 p.ungranted
        ++ (match p.lastEnd with
          | none => absent 2
          | some e => e.handle :: le 1 (match e.reason with
            | .completed => 16 | .released => 17 | .expired => 18 | .revoked => 19 | .overheat => 20 | .outranked => 21
            | .satisfied => 22 | .abandoned => 23 | .mode => 24 | .timedOut => 25 | .resetGrants => 26))
        ++ (match g with | none => absent 1 | some g => [g.handle]))
    ∧ (∀ g : Grant, g.record =
        g.handle :: le 1 (match g.cls with | .normal _ => 1 | .hygiene => 2 | .mustTake _ => 3)
        ++ le 1 (match g.cls with
          | .mustTake held => if held then 2 else 1 | .normal n => if n.suspended then 3 else 1 | .hygiene => 1)
        ++ le 4 g.delivered ++ le 2 g.declaredSupply ++ le 2 ((g.liveness + 32767) / 32768)
        ++ (match g.cls with
          | .normal n => le 2 n.budget ++ le 2 ((n.minRun.getD 0 + 32767) / 32768) ++ yes n.suspendPending
          | .mustTake _ => absent 5
          | .hygiene => absent 5))
    ∧ (∀ p : Probe, p.record =
        (match p.config with
          | none => absent 13
          | some c =>
            le 2 c.height ++ yes c.enabled ++ le 2 c.tolerance ++ le 1 c.lockCount ++ le 1 c.shift ++ le 2 c.bound
              ++ le 1 c.hold ++ le 2 c.threshold ++ le 1 (match c.alarmMode with | .follow => 0 | .latch => 1))
        ++ le 1 (match p.state with | .off => 0 | .seeking => 1 | .locked => 2 | .lockout => 3 | .fault => 4)
        ++ le 1 p.agree ++ le 2 (p.cumulative % 65536).toNat ++ le 1 p.limited ++ le 1 p.silent
        ++ optional p.last ++ optional p.minimum ++ optional p.maximum ++ yes p.alarm
        ++ le 2 ((p.holdTimer.getD 0 + 1966079) / 1966080))
    ∧ ∀ (s t : State) (st : Store), t.store = some st →
    (∀ p0 p1, s.Taking ⟨15, 0, .short p0 p1⟩ t →
        (3 < p0.toNat → exec (.profile 0 p0 p1) s = .next (t.sent (longAnswer 15 0 8 0 [])))
          ∧ (p0.toNat ≤ 3 →
              let n := 8 * 2 ^ p0.toNat
              exec (.profile 0 p0 p1) s = .next (t.sent (longAnswer 15 0 0 0
                ((List.range n).flatMap fun i => le 2 (tempAt ((2 * i + 1) * st.cfg.volume / (2 * n)) st.strata))))))
      ∧ (∀ body, LongBodyGood body [0] 1 → s.Taking ⟨21, 0, .long body⟩ t →
          exec (.readStrata 0 body) s = .next (t.sent (longAnswer 21 0 0 0
            (le 1 st.strata.length
              ++ st.strata.flatMap fun x => le 2 x.volume ++ le 2 x.temp ++ le 2 x.age ++ le 1 x.dwell))))
      ∧ (∀ body, LongBodyGood body [1] 1 → s.Taking ⟨21, 0, .long body⟩ t →
          exec (.readPorts 0 body) s = .next (t.sent (longAnswer 21 0 0 0
            (PortId.all.flatMap fun p => (t.port p).record (t.grant p)))))
      ∧ (∀ body, LongBodyGood body [2] 1 → s.Taking ⟨21, 0, .long body⟩ t →
          exec (.readGrants 0 body) s = .next (t.sent (longAnswer 21 0 0 0
            (le 1 (PortId.all.filterMap t.grant).length ++ (PortId.all.filterMap t.grant).flatMap Grant.record
              ++ le 1 t.arbiter.resume.length
              ++ (t.arbiter.resume.flatMap fun p => leOrAbsent 1 ((t.grant p).map (·.handle.toNat)))
              ++ ([if t.arbiter.solarActive then 1 else 0, if t.arbiter.overheat then 1 else 0,
                if t.arbiter.comfortEmergency then 1 else 0] : List Byte)))))
      ∧ (∀ body, LongBodyGood body [3] 1 → s.Taking ⟨21, 0, .long body⟩ t →
          exec (.readProbes 0 body) s = .next (t.sent (longAnswer 21 0 0 0
            ((ProbeId.all.flatMap fun n => (t.probes.get n).record)
              ++ ([if t.scanner.conversion.isSome then 1 else 0] : List Byte)
              ++ leOrAbsent 1 (t.scanner.conversion.map (·.probe.number))
              ++ ([if t.scanner.rescanPending then 1 else 0] : List Byte)
              ++ le 2 (((t.scanner.interval.getD 0) + 32767) / 32768)))))
      ∧ (∀ body, LongBodyGood body [4] 1 → s.Taking ⟨21, 0, .long body⟩ t →
          exec (.readSummary 0 body) s = .next (t.sent (longAnswer 21 0 0 0
            (le 4 st.headroom ++ le 2 st.hotVolume ++ le 4 st.comfortNeed ++ le 4 st.hygieneNeed
              ++ le 2 (t.arbiter.forecast - t.arbiter.mustTakeHeat) ++ le 2 st.mains ++ le 2 st.ambient
              ++ le 2 (topTemp st.strata)
              ++ ([match t.hygiene.state with | .clear => 0 | .due => 1 | .inProgress => 2] : List Byte)
              ++ le 2 (((t.hygiene.limit.getD 0) + 1966079) / 1966080)
              ++ ([if st.holiday then 2 else 1] : List Byte)))))

/-! ## The list -/

/-- Normalization: a merge adds the volumes, mixes to the rounded mean, and keeps the larger age and the smaller dwell; the
lowest pair within the band is merged first; with none, the lowest thin stratum is merged with its nearer neighbour, the one
above on a tie, and a top one with the one below; a normal list is left as it is; and what is left is normal, of the same
volume, and no warmer or cooler than what went in (R8, R23, R27 to R29). -/
def Obligations.NormalizationMergesInOrder : Prop :=
  (∀ a b : Stratum, 1 ≤ a.volume → a.temp ≤ 11000 → b.temp ≤ 11000 →
      mergePair a b = ⟨a.volume + b.volume,
        (2 * (a.volume * a.temp + b.volume * b.temp) + (a.volume + b.volume)) / (2 * (a.volume + b.volume)),
        max a.age b.age, min a.dwell b.dwell⟩)
    ∧ (∀ (band v : Nat) (below above : List Stratum) (a b : Stratum), Rising band (below ++ [a]) →
        b.temp ≤ a.temp + band →
        normalize band v (below ++ a :: b :: above) = normalize band v (below ++ mergePair a b :: above))
    ∧ (∀ (band v : Nat) (above : List Stratum) (a b : Stratum), Rising band (a :: b :: above) → a.volume < v →
        normalize band v (a :: b :: above) = normalize band v (mergePair a b :: above))
    ∧ (∀ (band v : Nat) (below above : List Stratum) (a b c : Stratum), Rising band (below ++ a :: b :: c :: above) →
        (∀ x ∈ below ++ [a], v ≤ x.volume) → b.volume < v →
        (c.temp - b.temp ≤ b.temp - a.temp →
            normalize band v (below ++ a :: b :: c :: above) = normalize band v (below ++ a :: mergePair b c :: above))
          ∧ (b.temp - a.temp < c.temp - b.temp →
            normalize band v (below ++ a :: b :: c :: above) = normalize band v (below ++ mergePair a b :: c :: above)))
    ∧ (∀ (band v : Nat) (below : List Stratum) (a b : Stratum), Rising band (below ++ [a, b]) →
        (∀ x ∈ below ++ [a], v ≤ x.volume) → b.volume < v →
        normalize band v (below ++ [a, b]) = normalize band v (below ++ [mergePair a b]))
    ∧ (∀ (band v : Nat) (l : List Stratum), NormalList band v l → normalize band v l = l)
    ∧ (∀ (band v : Nat) (l : List Stratum),
        NormalList band v (normalize band v l) ∧ volumeOf (normalize band v l) = volumeOf l)
    ∧ (∀ (band v lo hi : Nat) (l : List Stratum), hi ≤ 11000 → (∀ x ∈ l, 1 ≤ x.volume ∧ lo ≤ x.temp ∧ x.temp ≤ hi) →
        ∀ x ∈ normalize band v l, 1 ≤ x.volume ∧ lo ≤ x.temp ∧ x.temp ≤ hi)

/-- A cut at a height keeps every dL of water as it was, below and above (R24, R25); and making room for n records merges, by
force and only while there are more than 32 − n, the lowest of the pairs of smallest difference (R30, R31). -/
def Obligations.CutAndRoomKeepTheWater : Prop :=
  (∀ (h : Nat) (l : List Stratum), h ≤ volumeOf l → (∀ x ∈ l, 1 ≤ x.volume) →
      volumeOf (cut h l).1 = h ∧ volumeOf (cut h l).2 = volumeOf l - h
        ∧ (∀ x ∈ (cut h l).1 ++ (cut h l).2, 1 ≤ x.volume
            ∧ ∃ y ∈ l, x.volume ≤ y.volume ∧ x.temp = y.temp ∧ x.age = y.age ∧ x.dwell = y.dwell)
        ∧ (∀ z, z < h → (stratumAt z (cut h l).1).map (·.temp) = (stratumAt z l).map (·.temp))
        ∧ (∀ z, h ≤ z → z < volumeOf l → (stratumAt (z - h) (cut h l).2).map (·.temp) = (stratumAt z l).map (·.temp)))
    ∧ (∀ (n : Nat) (l : List Stratum), n ≤ 2 →
        volumeOf (makeRoom n l).1 = volumeOf l ∧ (makeRoom n l).1.length = min l.length (32 - n)
          ∧ ((makeRoom n l).2 = true ↔ 32 - n < l.length) ∧ (l.length ≤ 32 - n → (makeRoom n l).1 = l))
    ∧ (∀ (n : Nat) (l : List Stratum), n ≤ 2 → 32 - n < l.length → (makeRoom n l).1 = (makeRoom n (forcedMerge l)).1)
    ∧ (∀ (below above : List Stratum) (a b : Stratum),
        (∀ i x y, (below ++ a :: b :: above)[i]? = some x → (below ++ a :: b :: above)[i + 1]? = some y →
          (b.temp : Int) - a.temp ≤ (y.temp : Int) - x.temp
            ∧ (i < below.length → (b.temp : Int) - a.temp < (y.temp : Int) - x.temp)) →
        forcedMerge (below ++ a :: b :: above) = below ++ mergePair a b :: above)

/-- The model temperature at a height is that of the stratum whose span holds it, of the top one at or beyond V (R4); and the
summaries of the list: headroom, hot volume, comfort need over the top W dL, hygiene need over the tracked strata, and the
room term (R11 to R16). -/
def Obligations.LookupsAndSummariesReadTheList : Prop :=
  (∀ (h : Nat) (below above : List Stratum) (x : Stratum), volumeOf below ≤ h → h < volumeOf below + x.volume →
      tempAt h (below ++ x :: above) = x.temp)
    ∧ (∀ (h : Nat) (below : List Stratum) (x : Stratum), volumeOf below ≤ h → tempAt h (below ++ [x]) = x.temp)
    ∧ (∀ st : Store, st.headroom = (st.strata.map fun x => x.volume * (st.cfg.tMax - x.temp)).sum / 860)
    ∧ (∀ st : Store, st.hotVolume = (st.strata.map fun x => if st.cfg.tUse ≤ x.temp then x.volume else 0).sum)
    ∧ (∀ (st : Store) (below above : List Stratum) (x : Stratum), st.strata = below ++ x :: above → st.holiday = false →
        volumeOf above ≤ st.cfg.comfortTarget → st.cfg.comfortTarget ≤ volumeOf above + x.volume →
        st.comfortNeed = ((above.map fun y => y.volume * (st.cfg.tComfort - y.temp)).sum
          + (st.cfg.comfortTarget - volumeOf above) * (st.cfg.tComfort - x.temp) + 859) / 860)
    ∧ (∀ st : Store, st.holiday = true → st.comfortNeed = 0)
    ∧ (∀ (st : Store) (below above : List Stratum) (x : Stratum), st.strata = below ++ x :: above →
        volumeOf below ≤ st.cfg.hygieneFloor → st.cfg.hygieneFloor < volumeOf below + x.volume →
        st.hygieneNeed = (((x :: above).map fun y => y.volume * (st.cfg.tHyg + 100 - y.temp)).sum + 859) / 860)
    ∧ (∀ st : Store, volumeOf st.strata ≤ st.cfg.hygieneFloor → st.hygieneNeed = 0)
    ∧ (∀ (st : Store) (a : Arbiter),
        roomTerm st a = if a.comfortEmergency then st.headroom else st.headroom - (a.forecast - a.mustTakeHeat))

/-- What each deposit does to the list: nothing where the supply is too cool or nothing is carried; else, a coil and a lance
after making room for 2 and for 1, the zone, the stratum or the transfer volume takes the heat, capped at the supply. Water is neither made nor lost, no water ends hotter
than the hotter of the list and the supply, and at most E Wh are absorbed (R46 to R51). -/
def Obligations.DepositsKeepVolumeAndCap : Prop :=
  (∀ (cfg : StoreConfig) (bottom top q supply : Nat) (l : List Stratum),
      (supply ≤ meanTemp (cut (top - bottom) (cut bottom l).2).1 → depositList cfg (.coil bottom top) q supply l = (l, false))
        ∧ (meanTemp (cut (top - bottom) (cut bottom l).2).1 < supply → supply ≤ 11000 →
            let room := (makeRoom 2 l).1
            let below := (cut bottom room).1
            let zone := (cut (top - bottom) (cut bottom room).2).1
            let above := (cut (top - bottom) (cut bottom room).2).2
            depositList cfg (.coil bottom top) q supply l =
              (cfg.normalize (below ++
                ⟨volumeOf zone, min ((2 * (heatOf zone + q) + volumeOf zone) / (2 * volumeOf zone)) supply, maxAge zone,
                  minDwell zone⟩ :: above), decide (30 < l.length))))
    ∧ (∀ (cfg : StoreConfig) (height q supply : Nat) (below above : List Stratum) (x : Stratum),
        volumeOf below ≤ height → (height < volumeOf below + x.volume ∨ above = []) →
        (supply ≤ x.temp →
            depositList cfg (.element height) q supply (below ++ x :: above) = (below ++ x :: above, false))
          ∧ (x.temp < supply → supply ≤ 11000 → depositList cfg (.element height) q supply (below ++ x :: above) =
              (cfg.normalize (below ++
                { x with temp := min ((2 * (x.volume * x.temp + q) + x.volume) / (2 * x.volume)) supply } :: above),
                false)))
    ∧ (∀ (cfg : StoreConfig) (maximum q supply : Nat) (x : Stratum) (above : List Stratum),
        let l := x :: above
        let v := min ((2 * q + (supply - x.temp)) / (2 * (supply - x.temp))) maximum
        (supply < x.temp + 100 ∨ v = 0 → depositList cfg (.lance maximum) q supply l = (l, false))
          ∧ (x.temp + 100 ≤ supply → 1 ≤ v → supply ≤ 11000 →
              let room := (makeRoom 1 l).1
              depositList cfg (.lance maximum) q supply l =
                (cfg.normalize (insertByTemp ⟨v, supply, maxAge (cut v room).1, 0⟩ (cut v room).2),
                  decide (31 < l.length))))
    ∧ (∀ (new : Stratum) (below above : List Stratum), (∀ y ∈ below, y.temp < new.temp) →
        (∀ y, above.head? = some y → new.temp ≤ y.temp) → insertByTemp new (below ++ above) = below ++ new :: above)
    ∧ (∀ (cfg : StoreConfig) (e : Entry) (q supply b : Nat) (l : List Stratum), e.InStore (volumeOf l) →
        (∀ x ∈ l, 1 ≤ x.volume ∧ x.temp ≤ b) → supply ≤ b → b ≤ 11000 →
        volumeOf (depositList cfg e q supply l).1 = volumeOf l
          ∧ ∀ x ∈ (depositList cfg e q supply l).1, x.temp ≤ b)
    ∧ (∀ (wh : Nat) (l m : List Stratum), absorbedWh wh l m ≤ wh ∧ (heatOf m ≤ heatOf l → absorbedWh wh l m = 0)
        ∧ absorbedWh wh l m = min ((2 * (heatOf m - heatOf l) + 860) / 1720) wh)

/-! ## Handles and the ends of grants -/

/-- KEEPALIVE: NOT_CONFIGURED without a store and NO_PORT on a port of kind NONE; then the handle of the port's grant
restarts its liveness timer, changes nothing else, and is answered OK with the grant's state; else the handle of the last end
is answered ENDED with its reason; else STALE; and neither of these changes anything (R105). -/
def Obligations.KeepaliveComparesTheHandle : Prop :=
  ∀ (s t : State) (p : PortId) (p0 p1 : Byte), s.Taking ⟨6, BitVec.ofNat 3 p.number, .short p0 p1⟩ t →
    let ch := BitVec.ofNat 3 p.number
    (t.store = none → exec (.keepalive ch p0 p1) s = .next (t.sent (shortAnswer 6 ch 2 0)))
      ∧ (t.store ≠ none → (t.port p).config = none →
          exec (.keepalive ch p0 p1) s = .next (t.sent (shortAnswer 6 ch 12 0)))
      ∧ (∀ c g, t.store ≠ none → (t.port p).config = some c → t.grant p = some g → g.handle = p0 →
          exec (.keepalive ch p0 p1) s = .next (State.sent
            { t with arbiter := { t.arbiter with
                grants := t.arbiter.grants.set p (some { g with liveness := c.liveness * 32768 }) } }
            (shortAnswer 6 ch 0 (match g.cls with
              | .mustTake held => if held then 2 else 1 | .normal n => if n.suspended then 3 else 1 | .hygiene => 1))))
      ∧ (∀ c e, t.store ≠ none → (t.port p).config = some c → (∀ g, t.grant p = some g → g.handle ≠ p0) →
          (t.port p).lastEnd = some e → e.handle = p0 →
          exec (.keepalive ch p0 p1) s = .next (t.sent (shortAnswer 6 ch 10 (BitVec.ofNat 8 e.reason.code))))
      ∧ (∀ c, t.store ≠ none → (t.port p).config = some c → (∀ g, t.grant p = some g → g.handle ≠ p0) →
          (∀ e, (t.port p).lastEnd = some e → e.handle ≠ p0) →
          exec (.keepalive ch p0 p1) s = .next (t.sent (shortAnswer 6 ch 9 0)))

/-- RELEASE, REVOKE and a liveness expiry retire the grant they name, with RELEASED, REVOKED and EXPIRED; a RELEASE on a port
of kind NONE is NO_PORT, one that names no grant is ENDED or STALE, a REVOKE that finds none NO_GRANT and one of no port ERR_RANGE, and an expiry of no grant
nothing, and none of these changes the blocks (R104, R106, R108). -/
def Obligations.ReleaseRevokeAndExpiryRetire : Prop :=
  (∀ (s t : State) (p : PortId) (p0 p1 : Byte) (c : PortConfig),
      s.Taking ⟨7, BitVec.ofNat 3 p.number, .short p0 p1⟩ t → t.store ≠ none → (t.port p).config = some c →
      let ch := BitVec.ofNat 3 p.number
      (∀ g, t.grant p = some g → g.handle = p0 →
          exec (.release ch p0 p1) s = .next ((t.retire p .released).sent (shortAnswer 7 ch 0 0)))
        ∧ (∀ e, (∀ g, t.grant p = some g → g.handle ≠ p0) → (t.port p).lastEnd = some e → e.handle = p0 →
          exec (.release ch p0 p1) s = .next (t.sent (shortAnswer 7 ch 10 (BitVec.ofNat 8 e.reason.code))))
        ∧ ((∀ g, t.grant p = some g → g.handle ≠ p0) → (∀ e, (t.port p).lastEnd = some e → e.handle ≠ p0) →
          exec (.release ch p0 p1) s = .next (t.sent (shortAnswer 7 ch 9 0))))
    ∧ (∀ (s t : State) (p : PortId) (p0 p1 : Byte), s.Taking ⟨7, BitVec.ofNat 3 p.number, .short p0 p1⟩ t →
        t.store ≠ none → (t.port p).config = none → exec (.release (BitVec.ofNat 3 p.number) p0 p1) s =
          .next (t.sent (shortAnswer 7 (BitVec.ofNat 3 p.number) 12 0)))
    ∧ (∀ (s t : State) (p0 p1 : Byte), s.Taking ⟨8, 0, .short p0 p1⟩ t → t.store ≠ none →
        (p0 = 0 ∨ 6 < p0.toNat → exec (.revoke 0 p0 p1) s = .next (t.sent (shortAnswer 8 0 8 0)))
          ∧ (∀ p : PortId, p0.toNat = p.number → t.grant p = none →
            exec (.revoke 0 p0 p1) s = .next (t.sent (shortAnswer 8 0 13 0)))
          ∧ (∀ (p : PortId) (g : Grant), p0.toNat = p.number → t.grant p = some g →
            exec (.revoke 0 p0 p1) s = .next ((t.retire p .revoked).sent (shortAnswer 8 0 0 g.handle))))
    ∧ (∀ (s : State) (p : PortId), s.pins.resetLow = false →
        (∀ g, s.grant p = some g → exec (.livenessExpiry p) s = .next (s.retire p .expired))
          ∧ (s.grant p = none → exec (.livenessExpiry p) s = .next s))

/-- A retirement, whole: off the resume list with the others' order kept, the last end written, the record gone, GRANT_ENDED
but for RELEASED and COMPLETED, RESUME_DROPPED for ABANDONED, a HYGIENE grant's end other than COMPLETED failing the run, and
nothing else; and the end of the last MUST_TAKE grant under solar-active then clears it with SOLAR_CHANGED, removes the marks
and pops the resume list, with no mark and no entry left (R81, R101, R102, R116, R137). -/
def Obligations.RetirementDoesExactlyThis : Prop :=
  ∀ (s : State) (p : PortId) (g : Grant) (r : Reason), s.grant p = some g →
    let failed := g.cls = .hygiene ∧ r ≠ .completed ∧ s.hygiene.state = .inProgress
    let n1 := if r = .released ∨ r = .completed then s.notices else s.notices.raise .grantEnded
    let n2 := if r = .abandoned then n1.raise .resumeDropped else n1
    let ended : State :=
      { s with
        arbiter := { s.arbiter with
          resume := s.arbiter.resume.filter (· ≠ p)
          ports := s.arbiter.ports.set p { s.port p with lastEnd := some { handle := g.handle, reason := r } }
          grants := s.arbiter.grants.set p none }
        hygiene := if failed then { state := .due, limit := none } else s.hygiene
        notices := if failed then n2.raise .hygieneFailed else n2 }
    s.retireHoldingSolar p r = ended
      ∧ ((∀ held, g.cls ≠ .mustTake held) → s.retire p r = ended)
      ∧ (s.arbiter.solarActive = false → s.retire p r = ended)
      ∧ ((∃ q h held, q ≠ p ∧ s.grant q = some h ∧ h.cls = .mustTake held) → s.retire p r = ended)
      ∧ (∀ held, g.cls = .mustTake held → s.arbiter.solarActive = true →
          (∀ q h held', q ≠ p → s.grant q = some h → h.cls ≠ .mustTake held') →
          let u := s.retire p r
          u = State.popResume (State.removeMarks
              { ended with
                arbiter := { ended.arbiter with solarActive := false, solarIdle := none }
                notices := ended.notices.raise .solarChanged })
            ∧ s.TouchesGrants u ∧ u.grant p = none
            ∧ (u.port p).lastEnd = some { handle := g.handle, reason := r }
            ∧ u.arbiter.solarActive = false ∧ u.arbiter.solarIdle = none ∧ u.arbiter.resume = []
            ∧ u.notices.flags.getLsbD Notice.solarChanged.bit = true
            ∧ (∀ q h n, u.grant q = some h → h.cls = .normal n → n.suspendPending = false))

/-! ## Ports and charge requests -/

/-- CONFIGURE_PORT: the six checks in their order, each with its answer and no change; and what a port takes from a request
that passes them: kind NONE empties the configuration alone, another kind sets its source, the fields of its mode, its cap
clamped, its rank in 1 to 5 and its timeout; the totals and the last end stay (R77, R82 to R85). -/
def Obligations.ConfigurePortChecksAndSets : Prop :=
  ∀ (s t : State) (body : LongBody) (b : List Byte) (st : Store), s.Taking ⟨17, 0, .long body⟩ t →
    LongBodyGood body b 16 → t.store = some st → 1000 ≤ st.cfg.volume →
    let f := PortFields.ofPayload b
    let allowed := f.kind ∈ [1, 2] ∧ f.mode ∈ [1, 2] ∨ f.kind ∈ [3, 4] ∧ f.mode = 1 ∨ f.kind = 5 ∧ f.mode = 3
    let fits := (f.mode = 1 → f.bottom < f.top ∧ f.top ≤ st.cfg.volume) ∧ (f.mode = 3 → f.height ≤ st.cfg.volume)
      ∧ (f.mode = 2 → f.lanceMax ≤ st.cfg.volume / 4)
    let low := 3 ≤ f.kind ∧ (f.mode = 1 ∧ f.bottom < st.cfg.auxFloor ∨ f.mode = 3 ∧ f.height < st.cfg.auxFloor)
    let answered (status value : Byte) := exec (.configurePort 0 body) s = .next (t.sent (shortAnswer 17 0 status value))
    (f.port = 0 ∨ 6 < f.port ∨ 5 < f.kind → answered 8 0)
      ∧ ∀ p : PortId, f.port = p.number → f.kind ≤ 5 →
        (f.kind ≠ 0 → ¬allowed → answered 8 0)
          ∧ (allowed → ¬fits → answered 8 0)
          ∧ ((f.kind = 0 ∨ allowed ∧ fits) → t.grant p ≠ none → answered 3 0)
          ∧ (allowed → fits → t.grant p = none → low → answered 1 9)
          ∧ (f.kind = 0 → t.grant p = none → exec (.configurePort 0 body) s = .next (State.sent
              { t with arbiter := { t.arbiter with ports := t.arbiter.ports.set p { t.port p with config := none } } }
              (shortAnswer 17 0 0 0)))
          ∧ (allowed → fits → t.grant p = none → ¬low → ∃ c, exec (.configurePort 0 body) s = .next (State.sent
              { t with arbiter := { t.arbiter with ports := t.arbiter.ports.set p { t.port p with config := some c } } }
              (shortAnswer 17 0 0 0))
              ∧ c.source.code = f.kind ∧ c.entry.code = f.mode
              ∧ (f.mode = 1 → c.entry = .coil f.bottom f.top) ∧ (f.mode = 2 → c.entry = .lance (max 10 f.lanceMax))
              ∧ (f.mode = 3 → c.entry = .element f.height)
              ∧ (3 ≤ f.kind → c.source.rank = some (max 1 (min f.rank 5))) ∧ (f.kind ≤ 2 → c.source.rank = none)
              ∧ c.supplyCap = min f.cap 11000
              ∧ c.liveness = if f.liveness = 0 then 120 else max 10 (min f.liveness 600))

/-- REQUEST_CHARGE up to its class, and the classes without a budget: NO_PORT, the two ERR_RANGE checks, NOT_HYGIENE_PORT and
PORT_BUSY in their order, changing nothing; a must-take port is granted at once, HELD while overheat is set; a HYGIENE
request is refused NO_ROOM under overheat and NOT_DUE outside DUE, and else granted with the Monitor IN_PROGRESS and its time
limit started. A new handle is the last end's generation plus one over the port number (R81, R89 to R93, R98, R99, R135). -/
def Obligations.ChargeRequestsWithoutBudget : Prop :=
  ∀ (s t : State) (q : PortId) (body : LongBody) (b : List Byte) (st : Store),
    s.Taking ⟨19, BitVec.ofNat 3 q.number, .long body⟩ t → LongBodyGood body b 5 → t.store = some st →
    let ch := BitVec.ofNat 3 q.number
    let f := ChargeFields.ofPayload b
    let refused (status reason : Byte) :=
      exec (.requestCharge ch body) s = .next (t.sent (longAnswer 19 ch status reason [0xFF, 0, 0, 0]))
    let generation := match (t.port q).lastEnd with | some e => (e.handle.toNat / 16 + 1) % 16 | none => 0
    let handle := BitVec.ofNat 8 (16 * generation + q.number)
    ((t.port q).config = none → refused 12 0)
      ∧ ∀ c, (t.port q).config = some c →
        (f.cls ≠ 1 → f.cls ≠ 2 → refused 8 0)
          ∧ (∀ k r, c.source = .auxiliary k r → f.cls = 1 → f.wanted = 0 → refused 8 0)
          ∧ (∀ k, c.source = .mustTake k → f.cls = 2 → refused 1 1)
          ∧ (∀ k r, c.source = .auxiliary k r → f.cls = 2 → st.cfg.hygienePort ≠ q.number → refused 1 1)
          ∧ (∀ k, c.source = .mustTake k → f.cls = 1 → t.grant q ≠ none → refused 1 2)
          ∧ (∀ k r, c.source = .auxiliary k r → f.cls = 1 → f.wanted ≠ 0 → t.grant q ≠ none → refused 1 2)
          ∧ (∀ k r, c.source = .auxiliary k r → f.cls = 2 → st.cfg.hygienePort = q.number → t.grant q ≠ none → refused 1 2)
          ∧ (∀ k, c.source = .mustTake k → f.cls = 1 → t.grant q = none →
              exec (.requestCharge ch body) s = .next (State.sent
                { t with arbiter := { t.arbiter with grants := t.arbiter.grants.set q (some
                    { handle := handle, cls := .mustTake t.arbiter.overheat, delivered := 0
                      declaredSupply := min f.supply 11000, liveness := c.liveness * 32768 }) } }
                (longAnswer 19 ch 0 0 [handle, if t.arbiter.overheat then 2 else 1, 0, 0])))
          ∧ (∀ k r, c.source = .auxiliary k r → f.cls = 2 → st.cfg.hygienePort = q.number → t.grant q = none →
              (t.arbiter.overheat = true → refused 1 3)
                ∧ (t.arbiter.overheat = false → t.hygiene.state ≠ .due → refused 1 4)
                ∧ (t.arbiter.overheat = false → t.hygiene.state = .due →
                  exec (.requestCharge ch body) s = .next (State.sent
                    { t with
                      hygiene := { state := .inProgress, limit := some (st.cfg.hygieneLimit * 60 * 32768) }
                      arbiter := { t.arbiter with grants := t.arbiter.grants.set q (some
                        { handle := handle, cls := .hygiene, delivered := 0
                          declaredSupply := min f.supply 11000, liveness := c.liveness * 32768 }) } }
                    (longAnswer 19 ch 0 0 [handle, 1, 0, 0]))))

/-- A NORMAL request past its class: the four gates in their order refuse it and change nothing; then, after any outranking,
its allowance is the least of the wanted Wh, the free need and the room term, an allowance of 0 is NO_NEED or NO_ROOM, and
another is the budget of an ACTIVE grant with its minimum run started (R94 to R98). -/
def Obligations.NormalRequestsGetTheAllowance : Prop :=
  ∀ (s t : State) (q : PortId) (body : LongBody) (b : List Byte) (st : Store) (c : PortConfig) (k : AuxKind) (rank : Nat),
    s.Taking ⟨19, BitVec.ofNat 3 q.number, .long body⟩ t → LongBodyGood body b 5 → t.store = some st →
    (t.port q).config = some c → c.source = .auxiliary k rank → (ChargeFields.ofPayload b).cls = 1 →
    (ChargeFields.ofPayload b).wanted ≠ 0 → t.grant q = none →
    let ch := BitVec.ofNat 3 q.number
    let f := ChargeFields.ofPayload b
    let a := t.arbiter
    let refused (u : State) (reason : Byte) :=
      exec (.requestCharge ch body) s = .next (u.sent (longAnswer 19 ch 1 reason [0xFF, 0, 0, 0]))
    let generation := match (t.port q).lastEnd with | some e => (e.handle.toNat / 16 + 1) % 16 | none => 0
    let handle := BitVec.ofNat 8 (16 * generation + q.number)
    let open_ := a.overheat = false ∧ st.holiday = false ∧ (a.solarActive = false ∨ a.comfortEmergency = true)
      ∧ st.cfg.tComfort ≤ min f.supply 11000
    let u := t.outrank st q rank f.wanted
    let need := freeNeed st u.arbiter q
    let allowance := min f.wanted (min need (roomTerm st u.arbiter))
    (a.overheat = true → refused t 3)
      ∧ (a.overheat = false → st.holiday = true → refused t 5)
      ∧ (a.overheat = false → st.holiday = false → a.solarActive = true → a.comfortEmergency = false → refused t 6)
      ∧ (a.overheat = false → st.holiday = false → (a.solarActive = false ∨ a.comfortEmergency = true) →
          min f.supply 11000 < st.cfg.tComfort → refused t 7)
      ∧ (open_ → need = 0 → refused u 8)
      ∧ (open_ → need ≠ 0 → roomTerm st u.arbiter = 0 → refused u 3)
      ∧ (open_ → allowance ≠ 0 → exec (.requestCharge ch body) s = .next (State.sent
          { u with arbiter := { u.arbiter with grants := u.arbiter.grants.set q (some
              { handle := handle
                cls := .normal
                  { budget := allowance, minRun := if st.cfg.minRun = 0 then none else some (st.cfg.minRun * 32768)
                    suspendPending := false, suspended := false }
                delivered := 0, declaredSupply := min f.supply 11000, liveness := c.liveness * 32768 }) } }
          (longAnswer 19 ch 0 0 ([handle, 1] ++ le 2 allowance))))

/-- Outranking: where the free need covers the wanted Wh nothing happens; every grant it ends is a NORMAL one of a greater
rank number, ended OUTRANKED, and every other grant and port is as it was; it stops with the need covered or no such grant
left, having taken the greatest rank number first and the lowest port on a tie, each while the free need, those taken before
it gone, was still below the wanted Wh; and the free need leaves out what the other NORMAL grants still hold (R95, R96). -/
def Obligations.OutrankingTakesTheLowestRankFirst : Prop :=
  (∀ (st : Store) (a : Arbiter) (p : PortId),
      freeNeed st a p = st.comfortNeed - ((PortId.all.filter (· ≠ p)).map fun q =>
        match a.grants.get q with
        | some g => match g.cls with | .normal n => n.budget - g.delivered | .mustTake _ => 0 | .hygiene => 0
        | none => 0).sum)
    ∧ ∀ (s : State) (st : Store) (p : PortId) (rank wanted : Nat),
      let u := s.outrank st p rank wanted
      let ranked (a : Arbiter) (q : PortId) (r : Nat) := ∃ g n c, a.grants.get q = some g ∧ g.cls = .normal n
        ∧ (a.ports.get q).config = some c ∧ c.source.rank = some r
      (wanted ≤ freeNeed st s.arbiter p → u = s)
        ∧ s.TouchesGrants u ∧ u.hygiene = s.hygiene ∧ u.choices = s.choices
        ∧ (∀ q g, s.grant q = some g → u.grant q = none →
            (∃ r, ranked s.arbiter q r ∧ rank < r)
              ∧ u.port q = { s.port q with lastEnd := some { handle := g.handle, reason := .outranked } }
              ∧ q ∉ u.arbiter.resume)
        ∧ (∀ q, s.grant q = none ∨ u.grant q ≠ none → u.grant q = s.grant q ∧ u.port q = s.port q)
        ∧ (wanted ≤ freeNeed st u.arbiter p ∨ ∀ q r, ranked u.arbiter q r → r ≤ rank)
        ∧ (∀ q q' r r', s.grant q ≠ none → u.grant q = none → ranked s.arbiter q r → ranked u.arbiter q' r' → rank < r' →
            r' < r ∨ r' = r ∧ q.number < q'.number)
        ∧ (∀ q r, s.grant q ≠ none → u.grant q = none → ranked s.arbiter q r →
            let before (k : PortId) := s.grant k ≠ none ∧ u.grant k = none
              ∧ ∃ r', ranked s.arbiter k r' ∧ (r < r' ∨ r' = r ∧ k.number < q.number)
            ∀ a : Arbiter, (∀ k, before k → a.grants.get k = none) → (∀ k, ¬before k → a.grants.get k = s.grant k) →
              freeNeed st a p < wanted)

/-! ## Deposits -/

/-- A DEPOSIT that matches no grant: NO_PORT is not applied; with no energy it changes nothing; else its heat is laid in, its
absorbed Wh are added to the port's ungranted total, UNGRANTED_HEAT is set, the report is acted on, and it is answered STALE
with the last end's reason where its handle is the last end's, and UNGRANTED else; that a STALE answer keeps the reason found
at the match is the model's reading (log entry 29; R41, R42, R44, R45, R51, R55 to R57). -/
def Obligations.UnmatchedDepositsAreCountedUngranted : Prop :=
  ∀ (s t : State) (q : PortId) (body : LongBody) (b : List Byte) (st : Store),
    s.Taking ⟨20, BitVec.ofNat 3 q.number, .long body⟩ t → LongBodyGood body b 5 → t.store = some st →
    let ch := BitVec.ofNat 3 q.number
    let f := DepositFields.ofPayload b
    let reply (status outcome : Byte) (a e : Nat) (held : Bool) :=
      longAnswer 20 ch status 0 ([outcome] ++ le 2 a ++ le 2 (e - a) ++ [0, 0, 0, 0, 0, 0, if held then 1 else 0])
    ((t.port q).config = none → exec (.deposit ch body) s = .next (t.sent (reply 12 0 0 0 false)))
      ∧ ∀ c, (t.port q).config = some c → (∀ g, t.grant q = some g → g.handle ≠ f.handle) →
        let d := depositList st.cfg c.entry (f.energy * 860) (min (min f.supply c.supplyCap) 11000) st.strata
        let a := absorbedWh f.energy st.strata d.1
        let u := State.modelChanged
          { t with
            store := some { st with strata := d.1 }
            arbiter := { t.arbiter with
              ports := t.arbiter.ports.set q { t.port q with ungranted := min ((t.port q).ungranted + a) 4294967295 } }
            notices := ((t.raiseIf d.2 .forcedMerge).raise .ungrantedHeat).notices }
        (∀ e, (t.port q).lastEnd = some e → e.handle = f.handle →
            (f.energy = 0 → exec (.deposit ch body) s =
              .next (t.sent (reply 9 (BitVec.ofNat 8 e.reason.code) 0 0 t.arbiter.overheat)))
              ∧ (f.energy ≠ 0 → exec (.deposit ch body) s =
              .next (u.sent (reply 9 (BitVec.ofNat 8 e.reason.code) a f.energy u.arbiter.overheat))))
          ∧ ((∀ e, (t.port q).lastEnd = some e → e.handle ≠ f.handle) →
            (f.energy = 0 → exec (.deposit ch body) s = .next (t.sent (reply 11 0 0 0 t.arbiter.overheat)))
              ∧ (f.energy ≠ 0 → exec (.deposit ch body) s = .next (u.sent (reply 11 0 a f.energy u.arbiter.overheat))))

/-- A DEPOSIT that matches its port's grant: with no energy it restarts the liveness timer alone; else its heat is laid in and
booked to grant and port with the timer restarted, a NORMAL grant at its budget retires COMPLETED, must-take heat counts in M
and may be productive, and the report is acted on before the answer shows the grant's state or reason, the absorbed and
rejected Wh, the budget left, the hygiene need and HOLD. Where the report would complete a hygiene run and sets overheat too, or
the deposit is the run's own, the Monitor looks before the Arbiter, after it, or after the answer is built (log entry 5), and
a run that is completed is over with HYGIENE_DONE and no HYGIENE grant left (R44, R45, R51 to R57, R136, R139). -/
def Obligations.MatchedDepositsAreBookedToTheGrant : Prop :=
  ∀ (s t : State) (q : PortId) (body : LongBody) (b : List Byte) (st : Store) (c : PortConfig) (g : Grant),
    s.Taking ⟨20, BitVec.ofNat 3 q.number, .long body⟩ t → LongBodyGood body b 5 → t.store = some st →
    (t.port q).config = some c → t.grant q = some g → g.handle = (DepositFields.ofPayload b).handle →
    let ch := BitVec.ofNat 3 q.number
    let f := DepositFields.ofPayload b
    let outcome (u : State) : Nat :=
      match u.grant q with
      | some h => match h.cls with
        | .mustTake held => if held then 2 else 1 | .normal n => if n.suspended then 3 else 1 | .hygiene => 1
      | none => match (u.port q).lastEnd with | some e => e.reason.code | none => 0
    let left (u : State) : Nat :=
      match u.grant q with
      | some h => match h.cls with | .normal n => n.budget - h.delivered | .mustTake _ => 0 | .hygiene => 0
      | none => 0
    let reply (u : State) (a : Nat) (need : Nat) :=
      longAnswer 20 ch 0 0 (le 1 (outcome u) ++ le 2 a ++ le 2 (f.energy - a) ++ le 2 (left u)
        ++ le 4 (if g.cls = .hygiene then need else 0) ++ [if u.arbiter.overheat then 1 else 0])
    let alive : State := { t with arbiter := { t.arbiter with
      grants := t.arbiter.grants.set q (some { g with liveness := c.liveness * 32768 }) } }
    let d := depositList st.cfg c.entry (f.energy * 860) (min (min f.supply c.supplyCap) 11000) st.strata
    let a := absorbedWh f.energy st.strata d.1
    let store : Store := { st with strata := d.1 }
    let booked : Grant := { g with delivered := min (g.delivered + a) 4294967295, liveness := c.liveness * 32768 }
    let laid : State :=
      { t with
        store := some store
        arbiter := { t.arbiter with
          grants := t.arbiter.grants.set q (some booked)
          ports := t.arbiter.ports.set q { t.port q with absorbed := min ((t.port q).absorbed + a) 4294967295 } }
        notices := (t.raiseIf d.2 .forcedMerge).notices }
    let settled : State :=
      match g.cls with
      | .normal n => if n.budget ≤ booked.delivered then laid.retireHoldingSolar q .completed else laid
      | .mustTake _ =>
        let counted : State := { laid with arbiter := { laid.arbiter with
          mustTakeHeat := min (laid.arbiter.mustTakeHeat + a) 4294967295 } }
        if st.cfg.productive ≤ a then counted.productiveDeposit else counted
      | .hygiene => laid
    let completes := settled.hygiene.state = .inProgress ∧ ∀ x ∈ store.trackedStrata, x.age = 0
    let overheats := settled.arbiter.overheat = false
      ∧ (store.cfg.tMax ≤ topTemp store.strata ∨ ∃ n, (settled.probes.get n).alarm = true)
    let open_ := completes ∧ (overheats ∨ g.cls = .hygiene)
    (f.energy = 0 → exec (.deposit ch body) s = .next (alive.sent (reply alive 0 st.hygieneNeed)))
      ∧ (f.energy ≠ 0 → ¬open_ →
          let u := settled.testOverheat.compareComfort.hygieneLook
          exec (.deposit ch body) s = .next (u.sent (reply u a store.hygieneNeed)))
      ∧ (f.energy ≠ 0 → open_ →
          let x : State := { settled with choices := settled.choices + 1 }
          let early := x.hygieneLook.testOverheat.compareComfort
          let acted := x.testOverheat.compareComfort
          ∃ u v, (u = early ∧ v = early ∨ u = acted.hygieneLook ∧ v = acted.hygieneLook ∨ u = acted.hygieneLook ∧ v = acted)
            ∧ exec (.deposit ch body) s = .next (u.sent (reply v a store.hygieneNeed)))
      ∧ (f.energy ≠ 0 → completes → t.HygieneSound →
          ∃ u, exec (.deposit ch body) s = .next u ∧ u.hygiene = { state := .clear, limit := none }
            ∧ u.store = some store ∧ u.notices.flags.getLsbD Notice.hygieneDone.bit = true
            ∧ ∀ p h, u.grant p = some h → h.cls ≠ .hygiene)

/-! ## Notices -/

/-- NOTICES answers the notice word and the enable mask as they stand and then clears each flag of its clear mask, and
NOTICE_ENABLE replaces the enable mask and changes no flag; both re-evaluate ATTN, which is low exactly when a flag is both
set and enabled, are taken in every mode, and change nothing else (R182). -/
def Obligations.NoticesReadsAndClears : Prop :=
  ∀ (s t : State) (p0 p1 : Byte),
    (s.Taking ⟨12, 0, .short p0 p1⟩ t → ∃ u, exec (.notices 0 p0 p1) s = .next (State.sent { t with notices := u }
        (longAnswer 12 0 0 0 (le 2 t.notices.flags.toNat ++ le 2 t.notices.mask.toNat)))
        ∧ (∀ i, u.flags.getLsbD i = (t.notices.flags.getLsbD i && !(if i < 8 then p0.getLsbD i else p1.getLsbD (i - 8))))
        ∧ u.mask = t.notices.mask ∧ (u.attnLow = true ↔ u.flags &&& u.mask ≠ 0))
      ∧ (s.Taking ⟨13, 0, .short p0 p1⟩ t → ∃ u, exec (.noticeEnable 0 p0 p1) s =
          .next (State.sent { t with notices := u } (shortAnswer 13 0 0 0))
          ∧ u.flags = t.notices.flags ∧ u.mask.toNat = p0.toNat + 256 * p1.toNat
          ∧ (u.attnLow = true ↔ u.flags &&& u.mask ≠ 0))

/-- A flag that is set stays set, and the enable mask stays as it is, but for NOTICES, NOTICE_ENABLE and a reset of every
block (R181, R182). -/
def Obligations.FlagsFallOnlyByNoticesAndReset : Prop :=
  ∀ (c : Instr) (s t : State), exec c s = .next t →
    c ≠ .powerOn → c ≠ .resetPinLow → c ≠ .resetPinRelease → c ≠ .resetFullTakesEffect →
    ((∀ ch p0 p1, c ≠ .notices ch p0 p1) → ∀ i, s.notices.flags.getLsbD i = true → t.notices.flags.getLsbD i = true)
      ∧ ((∀ ch p0 p1, c ≠ .noticeEnable ch p0 p1) → t.notices.mask = s.notices.mask)

/-! ## Probes -/

/-- A start of a scan, by SCAN or by the expiry of the scan-interval timer: from idle it restarts that timer and converts the
lowest enabled probe; in flight it only marks that a cycle is owed, an expiry leaving the timer stopped; SCAN answers 0 or 1
for the two. A stopped timer does not expire (R143 to R145). -/
def Obligations.ScanStartsOrIsOwed : Prop :=
  (∀ (s : State) (above : Nat) (n : ProbeId), s.nextEnabled above = some n ↔
      above < n.number ∧ (s.probes.get n).enabled = true
        ∧ ∀ k : ProbeId, above < k.number → (s.probes.get k).enabled = true → n.number ≤ k.number)
    ∧ ∀ (s t : State) (st : Store), t.store = some st →
      let started (u : State) : Scanner :=
        { u.scanner with
          interval := some (st.cfg.scanInterval * 32768)
          conversion := (u.nextEnabled 0).map fun n => { probe := n, timeout := 32768, reconfigured := false } }
      (∀ p0 p1, s.Taking ⟨9, 0, .short p0 p1⟩ t →
          (t.scanner.conversion = none → exec (.scan 0 p0 p1) s =
              .next (State.sent { t with scanner := started t } (shortAnswer 9 0 0 0)))
            ∧ (t.scanner.conversion ≠ none → exec (.scan 0 p0 p1) s =
              .next (State.sent { t with scanner := { t.scanner with rescanPending := true } } (shortAnswer 9 0 0 1))))
        ∧ (t.pins.resetLow = false →
          (t.scanner.interval = none → exec .scanIntervalExpiry t = .next t)
            ∧ (t.scanner.interval ≠ none → t.scanner.conversion = none →
              exec .scanIntervalExpiry t = .next { t with scanner := started t })
            ∧ (t.scanner.interval ≠ none → t.scanner.conversion ≠ none → exec .scanIntervalExpiry t =
              .next { t with scanner := { t.scanner with interval := none, rescanPending := true } }))

/-- The end of a conversion: the first good reply of the probe in flight hands its clamped reading on and the timeout its
silence, nothing where the probe was reconfigured meanwhile; then the next enabled probe is converted, or the cycle ends and
an owed one starts at once. Any other reply, and either event with no conversion in flight, changes nothing. A timeout counts
silence up to 3, and at 3 a SEEKING or LOCKED probe is FAULT with PROBE_FAULT (R1, R142 to R144, R146, R148). -/
def Obligations.ConversionsEndAndTheCycleMovesOn : Prop :=
  (∀ s : State, s.pins.resetLow = false →
      (s.scanner.conversion = none →
          exec .conversionTimeout s = .next s ∧ ∀ good a r, exec (.probeReply good a r) s = .next s)
        ∧ ∀ cv, s.scanner.conversion = some cv →
          (∀ good a r, good = false ∨ a ≠ cv.probe.number → exec (.probeReply good a r) s = .next s)
            ∧ (∀ r : Int, exec (.probeReply true cv.probe.number r) s = .next
                (State.moveOn (if cv.reconfigured then s else s.takeReading cv.probe (min r.toNat 11000)) cv.probe))
            ∧ exec .conversionTimeout s =
                .next (State.moveOn (if cv.reconfigured then s else s.takeTimeout cv.probe) cv.probe))
    ∧ (∀ (s : State) (n : ProbeId),
        (∀ k, s.nextEnabled n.number = some k → s.moveOn n = { s with scanner := { s.scanner with
            conversion := some { probe := k, timeout := 32768, reconfigured := false } } })
          ∧ (s.nextEnabled n.number = none → s.scanner.rescanPending = false →
            s.moveOn n = { s with scanner := { s.scanner with conversion := none } })
          ∧ (∀ st, s.nextEnabled n.number = none → s.scanner.rescanPending = true → s.store = some st →
            s.moveOn n = { s with scanner :=
              { rescanPending := false, interval := some (st.cfg.scanInterval * 32768)
                conversion := (s.nextEnabled 0).map fun k => { probe := k, timeout := 32768, reconfigured := false } } }))
    ∧ (∀ (s : State) (n : ProbeId),
        let p := s.probes.get n
        let faults := 2 ≤ p.silent ∧ (p.state = .seeking ∨ p.state = .locked)
        s.takeTimeout n =
          { s with
            probes := s.probes.set n
              { p with
                silent := min (p.silent + 1) 3
                state := if faults then .fault else p.state
                agree := if faults then 0 else p.agree }
            notices := if faults ∨ p.silent = 2 then s.notices.raise .probeFault else s.notices })

/-- A reading taken by the Reconciler: the record and the alarm first, each change of the alarm reported to the Arbiter; then,
outside LOCKOUT, the comparison at the probe's height: an agreeing one counts toward LOCKED, and another returns the probe to
SEEKING with its correction clipped at the bound, counted, and sent unless 0; a third clip in a row enters LOCKOUT, once its
correction, if it is not 0, and those sent before it have been carried out, which is the model's place for it (R149 to R155;
log entry 14). -/
def Obligations.ReadingsAlarmCompareAndCorrect : Prop :=
  ∀ (s : State) (n : ProbeId) (r : Nat) (st : Store) (cfg : ProbeConfig), s.store = some st →
    (s.probes.get n).config = some cfg →
    let p := s.probes.get n
    let alarm := match cfg.alarmMode with
      | .follow => decide (cfg.threshold < r)
      | .latch => p.alarm || decide (cfg.threshold < r)
    let read : Probe :=
      { p with
        last := some r
        minimum := some (min r (p.minimum.getD r)), maximum := some (max r (p.maximum.getD r))
        silent := 0, alarm := alarm
        state := if p.state = .fault then .seeking else p.state
        agree := if p.state = .fault then 0 else p.agree }
    let recorded : State := { s with probes := s.probes.set n read }
    let y := if alarm = p.alarm then recorded else (recorded.raiseIf alarm .probeAlarm).testOverheat
    let d : Int := (tempAt cfg.height st.strata : Int) - r
    let c := clipCorrection p.cumulative (roundDivInt (-d) (2 ^ cfg.shift)) cfg.bound
    let limited := if c.2 then p.limited + 1 else 0
    let corrected : State :=
      { y with
        probes := y.probes.set n { read with state := .seeking, agree := 0, cumulative := p.cumulative + c.1, limited := limited }
        corrections := if c.1 = 0 then y.corrections else y.corrections ++ [{ height := cfg.height, amount := c.1 }] }
    (p.state = .lockout → s.takeReading n r = y)
      ∧ (p.state ≠ .lockout → -(cfg.tolerance : Int) ≤ d → d ≤ cfg.tolerance →
          (read.state ≠ .seeking → s.takeReading n r = y)
            ∧ (read.state = .seeking → s.takeReading n r =
              { y with
                probes := y.probes.set n
                  { read with
                    agree := read.agree + 1, state := if read.agree + 1 = cfg.lockCount then .locked else .seeking } }))
      ∧ (p.state ≠ .lockout → (d < -(cfg.tolerance : Int) ∨ (cfg.tolerance : Int) < d) →
          (limited ≠ 3 → s.takeReading n r = corrected)
            ∧ (limited = 3 → ∃ v, v = (if c.1 = 0 then corrected else corrected.settleCorrections)
              ∧ (c.1 ≠ 0 → v.corrections = []) ∧ s.takeReading n r =
                { v with
                  probes := v.probes.set n { v.probes.get n with
                    state := .lockout, holdTimer := if cfg.hold = 0 then none else some (cfg.hold * 60 * 32768) }
                  notices := v.notices.raise .probeLockout }))

/-- A correction: clipped so that the cumulative sum stays within its bound, whole where it fits and on its own side where it
does not; and carried out by the Store Model, oldest first, on the stratum that then holds the height, clamped, normalized
and reported, each by a PROBE_CORRECTION (R2, R33, R153, R154). That corrections wait in the order sent is the model's
reading (log entry 13), and so is a PROBE_CORRECTION with none waiting (log entry 28). -/
def Obligations.CorrectionsAreClippedAndCarriedOut : Prop :=
  (∀ (cumulative c : Int) (bound : Nat), -(bound : Int) ≤ cumulative → cumulative ≤ bound →
      let r := clipCorrection cumulative c bound
      (-(bound : Int) ≤ cumulative + c → cumulative + c ≤ bound → r = (c, false))
        ∧ ((bound : Int) < cumulative + c → r = (bound - cumulative, true) ∧ 0 ≤ r.1 ∧ r.1 < c)
        ∧ (cumulative + c < -(bound : Int) → r = (-bound - cumulative, true) ∧ c < r.1 ∧ r.1 ≤ 0)
        ∧ -(bound : Int) ≤ cumulative + r.1 ∧ cumulative + r.1 ≤ bound)
    ∧ (∀ (d : Int) (shift tolerance : Nat), 1 ≤ shift → shift ≤ 3 → 20 ≤ tolerance →
        (tolerance : Int) < d.natAbs → roundDivInt (-d) (2 ^ shift) ≠ 0
          ∧ 2 * (roundDivInt (-d) (2 ^ shift) * 2 ^ shift + d).natAbs ≤ 2 ^ shift)
    ∧ (∀ (s : State) (st : Store) (k : Correction) (rest : List Correction) (below above : List Stratum) (x : Stratum),
        s.pins.resetLow = false → s.store = some st → s.corrections = k :: rest → st.strata = below ++ x :: above →
        volumeOf below ≤ k.height → (k.height < volumeOf below + x.volume ∨ above = []) →
        exec .probeCorrection s = .next (State.modelChanged
          { s with
              corrections := rest
              store := some
                { st with
                  strata := st.cfg.normalize
                    (below ++ { x with temp := min ((x.temp : Int) + k.amount).toNat 11000 } :: above) } }))
    ∧ (∀ s : State, s.corrections = [] → exec .probeCorrection s = .next s ∧ s.settleCorrections = s)
    ∧ (∀ s : State, s.pins.resetLow = false → s.corrections ≠ [] →
        ∃ u, exec .probeCorrection s = .next u ∧ u.corrections = s.corrections.tail
          ∧ s.settleCorrections = u.settleCorrections)

/-- PROBE_CLEAR, the same whichever of its rows names the message: a bad number or sum is ERR_RANGE and changes nothing;
else relock, clear min/max and clear alarm are done as named, in that order, a fall of the alarm is reported to the Arbiter,
and the answer carries the probe's state (R158; log entry 15 for the rows). -/
def Obligations.ProbeClearDoesTheNamedActions : Prop :=
  ∀ (s t : State) (p0 p1 : Byte) (st : Store), s.Taking ⟨10, 0, .short p0 p1⟩ t → t.store = some st →
    ∀ row, row = Instr.relock 0 p0 p1 ∨ row = Instr.clearMinMax 0 p0 p1 ∨ row = Instr.clearAlarm 0 p0 p1 →
      ((p0 = 0 ∨ 8 < p0.toNat ∨ 7 < p1.toNat) → exec row s = .next (t.sent (shortAnswer 10 0 8 0)))
        ∧ ∀ n : ProbeId, p0.toNat = n.number → p1.toNat ≤ 7 →
          let p := t.probes.get n
          let a : Probe := if p1.getLsbD 0 ∧ p.state = .lockout then
            { p with state := .seeking, cumulative := 0, limited := 0, agree := 0, holdTimer := none } else p
          let b : Probe := if p1.getLsbD 1 then { a with minimum := none, maximum := none } else a
          let u : State := if p1.getLsbD 2 ∧ p.alarm = true then
              State.testOverheat { t with probes := t.probes.set n { b with alarm := false } }
            else { t with probes := t.probes.set n b }
          exec row s = .next (u.sent (shortAnswer 10 0 0 (match b.state with
            | .off => 0 | .seeking => 1 | .locked => 2 | .lockout => 3 | .fault => 4)))

/-- CONFIGURE_PROBE: its two ERR_RANGE checks change nothing; else the fall of a set alarm is reported, the record is a fresh
one with its fields in range, SEEKING where enabled and OFF where not, and a conversion of it in flight is marked. And the
expiry of a lockout hold returns the probe to SEEKING with its counts and sum 0; a stopped one does nothing (R146, R150,
R156, R157). -/
def Obligations.ProbesAreConfiguredAndReleased : Prop :=
  (∀ (s t : State) (body : LongBody) (b : List Byte) (st : Store), s.Taking ⟨18, 0, .long body⟩ t →
      LongBodyGood body b 14 → t.store = some st →
      let f := ProbeFields.ofPayload b
      let tuned (default lo hi n : Nat) := if n = 0 then default else max lo (min n hi)
      let config : ProbeConfig :=
        { height := f.height, enabled := decide (f.enabled = 1), tolerance := tuned 100 20 500 f.tolerance
          lockCount := tuned 4 1 15 f.lockCount, shift := tuned 2 1 3 f.shift, bound := tuned 500 50 2000 f.bound
          hold := f.hold, threshold := tuned 9000 5000 11000 f.threshold
          alarmMode := if f.alarmMode = 1 then .latch else .follow }
      (f.probe = 0 ∨ 8 < f.probe ∨ 1 < f.alarmMode ∨ 1 < f.enabled →
          exec (.configureProbe 0 body) s = .next (t.sent (shortAnswer 18 0 8 0)))
        ∧ (st.cfg.volume < f.height → exec (.configureProbe 0 body) s = .next (t.sent (shortAnswer 18 0 8 0)))
        ∧ ∀ n : ProbeId, f.probe = n.number → f.alarmMode ≤ 1 → f.enabled ≤ 1 → f.height ≤ st.cfg.volume →
          let lowered : State := { t with probes := t.probes.set n { t.probes.get n with alarm := false } }
          let u := if (t.probes.get n).alarm = true then lowered.testOverheat else t
          exec (.configureProbe 0 body) s = .next (State.sent
            { u with
              probes := u.probes.set n
                { config := some config, state := if f.enabled = 1 then .seeking else .off, agree := 0, cumulative := 0
                  limited := 0, silent := 0, last := none, minimum := none, maximum := none, alarm := false
                  holdTimer := none }
              scanner := { t.scanner with
                conversion := t.scanner.conversion.map fun cv =>
                  if cv.probe = n then { cv with reconfigured := true } else cv } }
            (shortAnswer 18 0 0 0)))
    ∧ (∀ (s : State) (n : ProbeId), s.pins.resetLow = false →
        let p := s.probes.get n
        (p.holdTimer = none → exec (.lockoutHoldExpiry n) s = .next s)
          ∧ (p.holdTimer ≠ none → p.state = .lockout → exec (.lockoutHoldExpiry n) s = .next
              { s with
                probes := s.probes.set n
                  { p with state := .seeking, cumulative := 0, limited := 0, agree := 0, holdTimer := none } }))

/-! ## Solar, resumption, overheat, comfort and hygiene -/

/-- The Arbiter's and the Monitor's own expiries: a min-run expiry records that the run is over and suspends a marked grant,
onto four entries after the oldest has retired ABANDONED with RESUME_DROPPED; the solar idle expiry clears solar-active, removes the marks and pops the resume list; the hygiene time limit retires the HYGIENE grant TIMED_OUT and the state is DUE
with HYGIENE_FAILED. A stopped timer does not expire (R113, R115, R116, R118, R137, R138). -/
def Obligations.ArbiterExpiriesSuspendClearAndFail : Prop :=
  (∀ (s : State) (p : PortId) (g : Grant) (n : NormalGrant), s.pins.resetLow = false → s.grant p = some g →
      g.cls = .normal n → n.minRun ≠ none →
      (n.suspendPending = false → exec (.minRunExpiry p) s = .next { s with arbiter := { s.arbiter with
          grants := s.arbiter.grants.set p (some { g with cls := .normal { n with minRun := none } }) } })
        ∧ (let suspended : State :=
            { s with arbiter := { s.arbiter with
                grants := s.arbiter.grants.set p
                  (some { g with cls := .normal { n with minRun := none, suspendPending := false, suspended := true } }) } }
          n.suspendPending = true → exec (.minRunExpiry p) s = .next (suspended.pushResume p)
            ∧ ∀ a b c d h, s.arbiter.resume = [a, b, c, d] → [p, a, b, c, d].Nodup → s.grant d = some h →
              ∃ u, exec (.minRunExpiry p) s = .next u ∧ u.arbiter.resume = [p, a, b, c] ∧ u.grant p = suspended.grant p
                ∧ u.grant d = none ∧ (u.port d).lastEnd = some { handle := h.handle, reason := .abandoned }
                ∧ u.notices.flags.getLsbD Notice.grantEnded.bit = true
                ∧ u.notices.flags.getLsbD Notice.resumeDropped.bit = true)
        ∧ (n.suspendPending = true → s.arbiter.resume.length < 4 → exec (.minRunExpiry p) s = .next
          { s with
            arbiter := { s.arbiter with
              resume := p :: s.arbiter.resume
              grants := s.arbiter.grants.set p
                (some { g with cls := .normal { n with minRun := none, suspendPending := false, suspended := true } }) } }))
    ∧ (∀ (s : State) (p : PortId), (∀ g n, s.grant p = some g → g.cls = .normal n → n.minRun = none) →
        exec (.minRunExpiry p) s = .next s)
    ∧ (∀ s : State, s.arbiter.solarIdle = none → exec .solarIdleExpiry s = .next s)
    ∧ (∀ s : State, s.pins.resetLow = false → s.arbiter.solarIdle ≠ none → s.arbiter.solarActive = true →
        ∃ u, exec .solarIdleExpiry s = .next u
          ∧ u = State.popResume (State.removeMarks
              { s with
                arbiter := { s.arbiter with solarActive := false, solarIdle := none }
                notices := s.notices.raise .solarChanged })
          ∧ s.TouchesGrants u ∧ u.hygiene = s.hygiene
          ∧ u.arbiter.solarActive = false ∧ u.arbiter.solarIdle = none ∧ u.arbiter.resume = []
          ∧ u.notices.flags.getLsbD Notice.solarChanged.bit = true
          ∧ (∀ q h n, u.grant q = some h → h.cls = .normal n → n.suspendPending = false)
          ∧ (∀ q, q ∉ s.arbiter.resume → ∀ g, s.grant q = some g → ∃ h, u.grant q = some h ∧ h.handle = g.handle
              ∧ h.delivered = g.delivered ∧ h.liveness = g.liveness))
    ∧ (∀ s : State, s.hygiene.limit = none → exec .hygieneTimeLimitExpiry s = .next s)
    ∧ (∀ (s : State) (p : PortId) (g : Grant), s.pins.resetLow = false → s.HygieneSound → s.grant p = some g →
        g.cls = .hygiene → exec .hygieneTimeLimitExpiry s = .next
          { s with
            arbiter := { s.arbiter with
              resume := s.arbiter.resume.filter (· ≠ p)
              ports := s.arbiter.ports.set p { s.port p with lastEnd := some { handle := g.handle, reason := .timedOut } }
              grants := s.arbiter.grants.set p none }
            hygiene := { state := .due, limit := none }
            notices := (s.notices.raise .grantEnded).raise .hygieneFailed })

/-- Standing aside, the resume list and resumption: each ACTIVE NORMAL grant whose minimum run is over is suspended, in port
order, the later on top, each by a push, however full the list, and one still running is marked; the marks are removed from all; a push onto four entries first
retires the oldest ABANDONED; a pop takes the top, and a popped grant's fresh allowance, without outranking, is its new budget on top of what it delivered, or at
0 retires it SATISFIED; and a productive deposit sets solar-active with SOLAR_CHANGED, or keeps it, and starts the idle timer,
standing grants aside outside a comfort emergency (R113, R114, R117, R118). -/
def Obligations.SuspensionAndResumption : Prop :=
  (∀ s : State,
      let due := PortId.all.filter fun p => match s.grant p with
        | some g => match g.cls with
          | .normal n => !n.suspended && decide (n.minRun = none) | .mustTake _ => false | .hygiene => false
        | none => false
      due.length + s.arbiter.resume.length ≤ 4 →
      s.standAside = { s with arbiter := { s.arbiter with
          resume := due.reverse ++ s.arbiter.resume, grants := s.standAside.arbiter.grants } }
        ∧ ∀ p, s.standAside.grant p = (s.grant p).map fun g => match g.cls with
          | .normal n => if n.suspended then g
              else if n.minRun = none then { g with cls := .normal { n with suspended := true, suspendPending := false } }
              else { g with cls := .normal { n with suspendPending := true } }
          | .mustTake _ => g
          | .hygiene => g)
    ∧ (∀ s : State, s.standAside = [PortId.p1, .p2, .p3, .p4, .p5, .p6].foldl State.standAsidePort s)
    ∧ (∀ (s : State) (p : PortId) (g : Grant) (n : NormalGrant), s.grant p = some g → g.cls = .normal n →
        n.suspended = false →
        let changed (m : NormalGrant) : State :=
          { s with arbiter := { s.arbiter with grants := s.arbiter.grants.set p (some { g with cls := .normal m }) } }
        (n.minRun = none →
            s.standAsidePort p = State.pushResume (changed { n with suspended := true, suspendPending := false }) p)
          ∧ (n.minRun ≠ none → s.standAsidePort p = changed { n with suspendPending := true }))
    ∧ (∀ (s : State) (p : PortId), (∀ g n, s.grant p = some g → g.cls = .normal n → n.suspended = true) →
        s.standAsidePort p = s)
    ∧ (∀ (s : State) (p : PortId), s.arbiter.resume.length < 4 →
        s.pushResume p = { s with arbiter := { s.arbiter with resume := p :: s.arbiter.resume } })
    ∧ (∀ (s : State) (p q : PortId) (above : List PortId), s.arbiter.resume = above ++ [q] → 3 ≤ above.length →
        let u := s.retireHoldingSolar q .abandoned
        s.pushResume p = { u with arbiter := { u.arbiter with resume := p :: u.arbiter.resume } })
    ∧ (∀ s : State, s.removeMarks = { s with arbiter := { s.arbiter with grants := s.removeMarks.arbiter.grants } }
        ∧ ∀ p, s.removeMarks.grant p = (s.grant p).map fun g => match g.cls with
          | .normal n => { g with cls := .normal { n with suspendPending := false } } | .mustTake _ => g | .hygiene => g)
    ∧ (∀ s : State, s.arbiter.resume = [] → s.popResume = s)
    ∧ (∀ (s : State) (p a b c d : PortId), s.arbiter.resume = [a, b, c, d] → [a, b, c, d].Nodup → s.grant d ≠ none →
        let u := s.retireHoldingSolar d .abandoned
        s.pushResume p = { u with arbiter := { u.arbiter with resume := [p, a, b, c] } } ∧ u.grant d = none
          ∧ u.notices.flags.getLsbD Notice.resumeDropped.bit = true)
    ∧ (∀ (s : State) (p : PortId) (rest : List PortId), s.arbiter.resume = p :: rest → p ∉ rest →
        s.popResume = State.popResume (State.resumeGrant { s with arbiter := { s.arbiter with resume := rest } } p))
    ∧ (∀ (s : State) (st : Store) (p : PortId) (g : Grant) (n : NormalGrant), s.store = some st → s.grant p = some g →
        g.cls = .normal n →
        let fresh := min (n.budget - g.delivered) (min (freeNeed st s.arbiter p) (roomTerm st s.arbiter))
        (fresh = 0 → s.resumeGrant p = s.retireHoldingSolar p .satisfied)
          ∧ (fresh ≠ 0 → s.resumeGrant p =
              { s with
                arbiter := { s.arbiter with
                  grants := s.arbiter.grants.set p (some
                    { g with
                      cls := .normal
                        { budget := g.delivered + fresh
                          minRun := if st.cfg.minRun = 0 then none else some (st.cfg.minRun * 32768)
                          suspendPending := false, suspended := false } }) } }))
    ∧ (∀ (s : State) (st : Store), s.store = some st →
        let kept : State := { s with arbiter := { s.arbiter with
          solarActive := true, solarIdle := some (st.cfg.solarIdle * 32768) } }
        (s.arbiter.solarActive = true → s.productiveDeposit = kept)
          ∧ (s.arbiter.solarActive = false → s.arbiter.comfortEmergency = true →
            s.productiveDeposit = { kept with notices := s.notices.raise .solarChanged })
          ∧ (s.arbiter.solarActive = false → s.arbiter.comfortEmergency = false →
            s.productiveDeposit = State.standAside { kept with notices := s.notices.raise .solarChanged }))

/-- Overheat: with the top at T_max or an alarm set, a clear state is set: NORMAL and HYGIENE grants retire OVERHEAT, MUST_TAKE
grants are HELD, OVERHEAT_SET. With the top at T_max less the hysteresis or below and no alarm, a set state is cleared:
HELD grants are ACTIVE, OVERHEAT_CLEARED, and nothing else changes. Between the two the state stays (R124 to R126). -/
def Obligations.OverheatIsSetAndCleared : Prop :=
  ∀ (s : State) (st : Store), s.store = some st →
    let alarm := ∃ n, (s.probes.get n).alarm = true
    let hot := st.cfg.tMax ≤ topTemp st.strata ∨ alarm
    let cool := topTemp st.strata ≤ st.cfg.tMax - st.cfg.hysteresis ∧ ¬alarm
    let u := s.testOverheat
    (s.arbiter.overheat = false → ¬hot → u = s)
      ∧ (s.arbiter.overheat = true → ¬cool → u = s)
      ∧ (s.arbiter.overheat = true → cool →
          u = { s with
              arbiter := { s.arbiter with overheat := false, grants := u.arbiter.grants }
              notices := s.notices.raise .overheatCleared }
            ∧ ∀ p, u.grant p = (s.grant p).map fun g => match g.cls with
              | .mustTake _ => { g with cls := .mustTake false } | .normal _ => g | .hygiene => g)
      ∧ (s.arbiter.overheat = false → hot →
          s.TouchesGrants u ∧ u.arbiter.overheat = true ∧ u.arbiter.solarActive = s.arbiter.solarActive
            ∧ u.arbiter.solarIdle = s.arbiter.solarIdle ∧ u.arbiter.comfortEmergency = s.arbiter.comfortEmergency
            ∧ u.notices.flags.getLsbD Notice.overheatSet.bit = true
            ∧ (∀ p, s.grant p = none → u.grant p = none ∧ u.port p = s.port p)
            ∧ (∀ p g held, s.grant p = some g → g.cls = .mustTake held →
                u.grant p = some { g with cls := .mustTake true } ∧ u.port p = s.port p
                  ∧ (p ∈ u.arbiter.resume ↔ p ∈ s.arbiter.resume))
            ∧ (∀ p g, s.grant p = some g → (∀ held, g.cls ≠ .mustTake held) →
                u.grant p = none ∧ p ∉ u.arbiter.resume
                  ∧ u.port p = { s.port p with lastEnd := some { handle := g.handle, reason := .overheat } }
                  ∧ u.notices.flags.getLsbD Notice.grantEnded.bit = true)
            ∧ (∀ p g, s.grant p = some g → g.cls = .hygiene → s.hygiene.state = .inProgress →
                u.hygiene = { state := .due, limit := none }
                  ∧ u.notices.flags.getLsbD Notice.hygieneFailed.bit = true))

/-- The comfort emergency and the report: in HOLIDAY nothing is compared; in RUNNING a hot volume below the minimum enters the
emergency once, with COMFORT_LOW, no mark left and the resume list popped; one at or above it leaves the emergency, standing
grants aside where solar-active is set and doing no more where it is clear; and a report runs the overheat tests, then this
comparison, then the Monitor's look, but where it both sets overheat and completes a run the look may come first (log entry 5),
all in one step (log entry 19; R121 to R123, R127, R139). -/
def Obligations.ComfortEmergencyIsEnteredAndLeft : Prop :=
  (∀ (s : State) (st : Store), s.store = some st →
      let low := st.hotVolume < st.cfg.minHotVolume
      let entered : State := { s with arbiter := { s.arbiter with comfortEmergency := true } }
      let left : State := { s with arbiter := { s.arbiter with comfortEmergency := false } }
      (st.holiday = true → s.compareComfort = s)
        ∧ (st.holiday = false → (low ↔ s.arbiter.comfortEmergency = true) → s.compareComfort = s)
        ∧ (st.holiday = false → low → s.arbiter.comfortEmergency = false →
            let u := s.compareComfort
            u = State.popResume (State.removeMarks (entered.raise .comfortLow))
              ∧ u.arbiter.comfortEmergency = true ∧ u.arbiter.resume = []
              ∧ u.arbiter.solarActive = s.arbiter.solarActive ∧ u.arbiter.solarIdle = s.arbiter.solarIdle
              ∧ u.arbiter.overheat = s.arbiter.overheat
              ∧ (∀ p h n, u.grant p = some h → h.cls = .normal n → n.suspendPending = false)
              ∧ u.notices.flags.getLsbD Notice.comfortLow.bit = true)
        ∧ (st.holiday = false → ¬low → s.arbiter.comfortEmergency = true →
            (s.arbiter.solarActive = false → s.compareComfort = left)
              ∧ (s.arbiter.solarActive = true → s.compareComfort = left.standAside)))
    ∧ (∀ s : State, s.store = none → s.modelChanged = s)
    ∧ (∀ (s : State) (st : Store), s.store = some st →
        let completes := s.hygiene.state = .inProgress ∧ ∀ x ∈ st.trackedStrata, x.age = 0
        let overheats := s.arbiter.overheat = false
          ∧ (st.cfg.tMax ≤ topTemp st.strata ∨ ∃ n, (s.probes.get n).alarm = true)
        let x : State := { s with choices := s.choices + 1 }
        (¬(completes ∧ overheats) → s.modelChanged = s.testOverheat.compareComfort.hygieneLook)
          ∧ (completes → overheats →
              s.modelChanged = x.hygieneLook.testOverheat.compareComfort
                ∨ s.modelChanged = x.testOverheat.compareComfort.hygieneLook))

/-- The Hygiene Monitor's look: in CLEAR an overdue tracked stratum makes it DUE with HYGIENE_DUE; in DUE a clean store makes
it CLEAR with HYGIENE_DONE; in IN_PROGRESS a clean store completes the run, the HYGIENE grant retiring COMPLETED without
GRANT_ENDED; and nothing else happens (R129, R130, R132 to R134, R136). -/
def Obligations.HygieneMonitorLooks : Prop :=
  ∀ (s : State) (st : Store), s.store = some st →
    let overdue := ∃ x ∈ st.trackedStrata, st.cfg.hygieneInterval ≤ x.age
    let clean := ∀ x ∈ st.trackedStrata, x.age = 0
    (s.hygiene.state = .clear → ¬overdue → s.hygieneLook = s)
      ∧ (s.hygiene.state = .clear → overdue → s.hygieneLook =
          { s with hygiene := { s.hygiene with state := .due }, notices := s.notices.raise .hygieneDue })
      ∧ (s.hygiene.state ≠ .clear → ¬clean → s.hygieneLook = s)
      ∧ (s.hygiene.state = .due → clean → s.hygieneLook =
          { s with hygiene := { s.hygiene with state := .clear }, notices := s.notices.raise .hygieneDone })
      ∧ (∀ p g, s.HygieneSound → s.grant p = some g → g.cls = .hygiene → clean → s.hygieneLook =
          { s with
            hygiene := { state := .clear, limit := none }
            notices := s.notices.raise .hygieneDone
            arbiter := { s.arbiter with
              resume := s.arbiter.resume.filter (· ≠ p)
              ports := s.arbiter.ports.set p { s.port p with lastEnd := some { handle := g.handle, reason := .completed } }
              grants := s.arbiter.grants.set p none } })

/-! ## The whole machine -/

/-- The water, its configuration and its mode change only by the operations of the Store Model and the resets: no reading,
no request about grants, ports, probes or notices, no byte of the link and no other expiry changes the configuration, the
stratum list or the mains and ambient temperatures (R21, R38, R63, R110, R177). -/
def Obligations.OnlyModelOperationsChangeTheWater : Prop :=
  ∀ (c : Instr) (s t : State), exec c s = .next t →
    (match c with
      | .powerOn | .resetPinLow | .resetPinRelease | .resetGrantsTakesEffect | .resetFullTakesEffect => False
      | .setMode _ _ _ | .setMains _ _ _ | .setAmbient _ _ _ | .draw _ _ _ | .reseed _ _ _ | .configureStore _ _ => False
      | .deposit _ _ | .lossIntervalExpiry | .hygieneMinuteExpiry | .probeCorrection | .probeReply _ _ _ => False
      | _ => True) →
    t.store = s.store

/-- Every step keeps ATTN low exactly when a flag is both set and enabled (R181). -/
def Obligations.EveryStepKeepsAttn : Prop :=
  ∀ s t : State, s.AttnSound → step s = .next t → t.AttnSound

/-- Every step keeps a configured store's list normal, its volumes summing to V in 1 to 32 records with every figure in its
range, the ports' and probes' heights within it, and the readings that may rebuild it in theirs (R1, R3, R20, R29, R75,
R147, R178). -/
def Obligations.EveryStepKeepsTheStore : Prop :=
  ∀ s t : State, s.StoreSound → step s = .next t → t.StoreSound

/-- Every step keeps each unretired grant on a configured port of its kind, under a handle of that port that is not its last
end's, with figures in their ranges and Wh left in a NORMAL budget (R53, R76, R81, R83, R88, R89). -/
def Obligations.EveryStepKeepsTheGrants : Prop :=
  ∀ s t : State, s.GrantsSound → step s = .next t → t.GrantsSound

/-- Headline: every step keeps the resume list holding each SUSPENDED grant once and no other, at most four, and empty while
solar-active is clear or an emergency is set, with the marks, the idle timer and the MUST_TAKE grant behind solar-active as
they must stand (R101, R113 to R116, R118, R122). -/
def Obligations.EveryStepKeepsTheResumeList : Prop :=
  ∀ s t : State, s.GrantsSound → s.ResumeSound → step s = .next t → t.ResumeSound

/-- Every step keeps every unretired grant a HELD MUST_TAKE grant while overheat is set, none HELD otherwise; and no NORMAL
grant and no emergency in HOLIDAY (R88, R109, R121, R125, R126). -/
def Obligations.EveryStepKeepsOverheatAndHoliday : Prop :=
  ∀ s t : State, step s = .next t → (s.OverheatSound → t.OverheatSound) ∧ (s.HolidaySound → t.HolidaySound)

/-- Every step keeps IN_PROGRESS standing exactly while a HYGIENE grant is unretired, never two, with the time limit running
exactly then (R131). -/
def Obligations.EveryStepKeepsHygiene : Prop :=
  ∀ s t : State, s.HygieneSound → step s = .next t → t.HygieneSound

/-- Every step keeps every probe's counts within their ranges, the agree count 0 but in SEEKING and LOCKED, its cumulative
correction within its bound, its state, counts and hold timer in agreement, and a probe never configured OFF (R147, R148,
R152, R153, R155 to R157). -/
def Obligations.EveryStepKeepsTheProbes : Prop :=
  ∀ s t : State, s.ProbesSound → step s = .next t → t.ProbesSound

/-- Every step keeps the link: at most two messages waiting, each as reception leaves it, the framing bytes those their state
may hold, and the stall timer running exactly outside IDLE (R164 to R166). -/
def Obligations.EveryStepKeepsTheLink : Prop :=
  ∀ s t : State, s.LinkSound → step s = .next t → t.LinkSound

/-- What every step keeps holds at reset (R39, R112, R131, R160, R174, R180, R181). -/
def Obligations.WhatStepsKeepHoldsAtReset : Prop :=
  State.reset.AttnSound ∧ State.reset.StoreSound ∧ State.reset.GrantsSound ∧ State.reset.ResumeSound
    ∧ State.reset.OverheatSound ∧ State.reset.HolidaySound ∧ State.reset.HygieneSound ∧ State.reset.ProbesSound
    ∧ State.reset.LinkSound

end
end

