-- ==== Sys2Proof/Laws/State.lean ====
section
/-!
SUPPORT. What each update of the state leaves in each field, so that no proof unfolds a record update.
-/

namespace Sys2Proof.Machine

variable (s : State)

/-! ### A flag set -/

@[simp] theorem State.raise_store (n : Notice) : (s.raise n).store = s.store := rfl
@[simp] theorem State.raise_corrections (n : Notice) : (s.raise n).corrections = s.corrections := rfl
@[simp] theorem State.raise_arbiter (n : Notice) : (s.raise n).arbiter = s.arbiter := rfl
@[simp] theorem State.raise_hygiene (n : Notice) : (s.raise n).hygiene = s.hygiene := rfl
@[simp] theorem State.raise_scanner (n : Notice) : (s.raise n).scanner = s.scanner := rfl
@[simp] theorem State.raise_probes (n : Notice) : (s.raise n).probes = s.probes := rfl
@[simp] theorem State.raise_link (n : Notice) : (s.raise n).link = s.link := rfl
@[simp] theorem State.raise_notices (n : Notice) : (s.raise n).notices = s.notices.raise n := rfl
@[simp] theorem State.raise_pins (n : Notice) : (s.raise n).pins = s.pins := rfl
@[simp] theorem State.raise_pending (n : Notice) : (s.raise n).pending = s.pending := rfl
@[simp] theorem State.raise_choices (n : Notice) : (s.raise n).choices = s.choices := rfl

/-! ### A flag set on a condition -/

@[simp] theorem State.raiseIf_store (c : Bool) (n : Notice) : (s.raiseIf c n).store = s.store := by cases c <;> rfl
@[simp] theorem State.raiseIf_corrections (c : Bool) (n : Notice) : (s.raiseIf c n).corrections = s.corrections := by cases c <;> rfl
@[simp] theorem State.raiseIf_arbiter (c : Bool) (n : Notice) : (s.raiseIf c n).arbiter = s.arbiter := by cases c <;> rfl
@[simp] theorem State.raiseIf_hygiene (c : Bool) (n : Notice) : (s.raiseIf c n).hygiene = s.hygiene := by cases c <;> rfl
@[simp] theorem State.raiseIf_scanner (c : Bool) (n : Notice) : (s.raiseIf c n).scanner = s.scanner := by cases c <;> rfl
@[simp] theorem State.raiseIf_probes (c : Bool) (n : Notice) : (s.raiseIf c n).probes = s.probes := by cases c <;> rfl
@[simp] theorem State.raiseIf_link (c : Bool) (n : Notice) : (s.raiseIf c n).link = s.link := by cases c <;> rfl
@[simp] theorem State.raiseIf_notices (c : Bool) (n : Notice) : (s.raiseIf c n).notices = if c then s.notices.raise n else s.notices := by cases c <;> rfl
@[simp] theorem State.raiseIf_pins (c : Bool) (n : Notice) : (s.raiseIf c n).pins = s.pins := by cases c <;> rfl
@[simp] theorem State.raiseIf_pending (c : Bool) (n : Notice) : (s.raiseIf c n).pending = s.pending := by cases c <;> rfl
@[simp] theorem State.raiseIf_choices (c : Bool) (n : Notice) : (s.raiseIf c n).choices = s.choices := by cases c <;> rfl

/-! ### The list replaced -/

@[simp] theorem State.withStrata_store (st : Store) (l : List Stratum) : (s.withStrata st l).store = some { st with strata := l } := rfl
@[simp] theorem State.withStrata_corrections (st : Store) (l : List Stratum) : (s.withStrata st l).corrections = s.corrections := rfl
@[simp] theorem State.withStrata_arbiter (st : Store) (l : List Stratum) : (s.withStrata st l).arbiter = s.arbiter := rfl
@[simp] theorem State.withStrata_hygiene (st : Store) (l : List Stratum) : (s.withStrata st l).hygiene = s.hygiene := rfl
@[simp] theorem State.withStrata_scanner (st : Store) (l : List Stratum) : (s.withStrata st l).scanner = s.scanner := rfl
@[simp] theorem State.withStrata_probes (st : Store) (l : List Stratum) : (s.withStrata st l).probes = s.probes := rfl
@[simp] theorem State.withStrata_link (st : Store) (l : List Stratum) : (s.withStrata st l).link = s.link := rfl
@[simp] theorem State.withStrata_notices (st : Store) (l : List Stratum) : (s.withStrata st l).notices = s.notices := rfl
@[simp] theorem State.withStrata_pins (st : Store) (l : List Stratum) : (s.withStrata st l).pins = s.pins := rfl
@[simp] theorem State.withStrata_pending (st : Store) (l : List Stratum) : (s.withStrata st l).pending = s.pending := rfl
@[simp] theorem State.withStrata_choices (st : Store) (l : List Stratum) : (s.withStrata st l).choices = s.choices := rfl

/-! ### A free choice counted -/

@[simp] theorem State.chosen_store : (s.chosen).store = s.store := rfl
@[simp] theorem State.chosen_corrections : (s.chosen).corrections = s.corrections := rfl
@[simp] theorem State.chosen_arbiter : (s.chosen).arbiter = s.arbiter := rfl
@[simp] theorem State.chosen_hygiene : (s.chosen).hygiene = s.hygiene := rfl
@[simp] theorem State.chosen_scanner : (s.chosen).scanner = s.scanner := rfl
@[simp] theorem State.chosen_probes : (s.chosen).probes = s.probes := rfl
@[simp] theorem State.chosen_link : (s.chosen).link = s.link := rfl
@[simp] theorem State.chosen_notices : (s.chosen).notices = s.notices := rfl
@[simp] theorem State.chosen_pins : (s.chosen).pins = s.pins := rfl
@[simp] theorem State.chosen_pending : (s.chosen).pending = s.pending := rfl
@[simp] theorem State.chosen_choices : (s.chosen).choices = s.choices + 1 := rfl

/-! ### An answer sent -/

@[simp] theorem State.send_store (m : Message) (a : Answer) : (s.send m a).store = s.store := rfl
@[simp] theorem State.send_corrections (m : Message) (a : Answer) : (s.send m a).corrections = s.corrections := rfl
@[simp] theorem State.send_arbiter (m : Message) (a : Answer) : (s.send m a).arbiter = s.arbiter := rfl
@[simp] theorem State.send_hygiene (m : Message) (a : Answer) : (s.send m a).hygiene = s.hygiene := rfl
@[simp] theorem State.send_scanner (m : Message) (a : Answer) : (s.send m a).scanner = s.scanner := rfl
@[simp] theorem State.send_probes (m : Message) (a : Answer) : (s.send m a).probes = s.probes := rfl
@[simp] theorem State.send_link (m : Message) (a : Answer) : (s.send m a).link = { s.link with txd := m.answerWire a } := rfl
@[simp] theorem State.send_notices (m : Message) (a : Answer) : (s.send m a).notices = s.notices := rfl
@[simp] theorem State.send_pins (m : Message) (a : Answer) : (s.send m a).pins = s.pins := rfl
@[simp] theorem State.send_pending (m : Message) (a : Answer) : (s.send m a).pending = s.pending := rfl
@[simp] theorem State.send_choices (m : Message) (a : Answer) : (s.send m a).choices = s.choices := rfl

/-! ### Bytes sent -/

@[simp] theorem State.sent_store (b : List Byte) : (s.sent b).store = s.store := rfl
@[simp] theorem State.sent_corrections (b : List Byte) : (s.sent b).corrections = s.corrections := rfl
@[simp] theorem State.sent_arbiter (b : List Byte) : (s.sent b).arbiter = s.arbiter := rfl
@[simp] theorem State.sent_hygiene (b : List Byte) : (s.sent b).hygiene = s.hygiene := rfl
@[simp] theorem State.sent_scanner (b : List Byte) : (s.sent b).scanner = s.scanner := rfl
@[simp] theorem State.sent_probes (b : List Byte) : (s.sent b).probes = s.probes := rfl
@[simp] theorem State.sent_link (b : List Byte) : (s.sent b).link = { s.link with txd := b } := rfl
@[simp] theorem State.sent_notices (b : List Byte) : (s.sent b).notices = s.notices := rfl
@[simp] theorem State.sent_pins (b : List Byte) : (s.sent b).pins = s.pins := rfl
@[simp] theorem State.sent_pending (b : List Byte) : (s.sent b).pending = s.pending := rfl
@[simp] theorem State.sent_choices (b : List Byte) : (s.sent b).choices = s.choices := rfl

/-! ### A port's grant changed -/

@[simp] theorem State.changeGrant_store (p : PortId) (f : Grant → Grant) : (s.changeGrant p f).store = s.store := rfl
@[simp] theorem State.changeGrant_corrections (p : PortId) (f : Grant → Grant) : (s.changeGrant p f).corrections = s.corrections := rfl
@[simp] theorem State.changeGrant_arbiter (p : PortId) (f : Grant → Grant) : (s.changeGrant p f).arbiter = s.arbiter.changeGrant p f := rfl
@[simp] theorem State.changeGrant_hygiene (p : PortId) (f : Grant → Grant) : (s.changeGrant p f).hygiene = s.hygiene := rfl
@[simp] theorem State.changeGrant_scanner (p : PortId) (f : Grant → Grant) : (s.changeGrant p f).scanner = s.scanner := rfl
@[simp] theorem State.changeGrant_probes (p : PortId) (f : Grant → Grant) : (s.changeGrant p f).probes = s.probes := rfl
@[simp] theorem State.changeGrant_link (p : PortId) (f : Grant → Grant) : (s.changeGrant p f).link = s.link := rfl
@[simp] theorem State.changeGrant_notices (p : PortId) (f : Grant → Grant) : (s.changeGrant p f).notices = s.notices := rfl
@[simp] theorem State.changeGrant_pins (p : PortId) (f : Grant → Grant) : (s.changeGrant p f).pins = s.pins := rfl
@[simp] theorem State.changeGrant_pending (p : PortId) (f : Grant → Grant) : (s.changeGrant p f).pending = s.pending := rfl
@[simp] theorem State.changeGrant_choices (p : PortId) (f : Grant → Grant) : (s.changeGrant p f).choices = s.choices := rfl

/-! ### A port record changed -/

@[simp] theorem State.changePort_store (p : PortId) (f : Port → Port) : (s.changePort p f).store = s.store := rfl
@[simp] theorem State.changePort_corrections (p : PortId) (f : Port → Port) : (s.changePort p f).corrections = s.corrections := rfl
@[simp] theorem State.changePort_arbiter (p : PortId) (f : Port → Port) : (s.changePort p f).arbiter = { s.arbiter with ports := s.arbiter.ports.set p (f (s.arbiter.ports.get p)) } := rfl
@[simp] theorem State.changePort_hygiene (p : PortId) (f : Port → Port) : (s.changePort p f).hygiene = s.hygiene := rfl
@[simp] theorem State.changePort_scanner (p : PortId) (f : Port → Port) : (s.changePort p f).scanner = s.scanner := rfl
@[simp] theorem State.changePort_probes (p : PortId) (f : Port → Port) : (s.changePort p f).probes = s.probes := rfl
@[simp] theorem State.changePort_link (p : PortId) (f : Port → Port) : (s.changePort p f).link = s.link := rfl
@[simp] theorem State.changePort_notices (p : PortId) (f : Port → Port) : (s.changePort p f).notices = s.notices := rfl
@[simp] theorem State.changePort_pins (p : PortId) (f : Port → Port) : (s.changePort p f).pins = s.pins := rfl
@[simp] theorem State.changePort_pending (p : PortId) (f : Port → Port) : (s.changePort p f).pending = s.pending := rfl
@[simp] theorem State.changePort_choices (p : PortId) (f : Port → Port) : (s.changePort p f).choices = s.choices := rfl

/-! ### A probe record changed -/

@[simp] theorem State.changeProbe_store (n : ProbeId) (f : Probe → Probe) : (s.changeProbe n f).store = s.store := rfl
@[simp] theorem State.changeProbe_corrections (n : ProbeId) (f : Probe → Probe) : (s.changeProbe n f).corrections = s.corrections := rfl
@[simp] theorem State.changeProbe_arbiter (n : ProbeId) (f : Probe → Probe) : (s.changeProbe n f).arbiter = s.arbiter := rfl
@[simp] theorem State.changeProbe_hygiene (n : ProbeId) (f : Probe → Probe) : (s.changeProbe n f).hygiene = s.hygiene := rfl
@[simp] theorem State.changeProbe_scanner (n : ProbeId) (f : Probe → Probe) : (s.changeProbe n f).scanner = s.scanner := rfl
@[simp] theorem State.changeProbe_probes (n : ProbeId) (f : Probe → Probe) : (s.changeProbe n f).probes = s.probes.set n (f (s.probes.get n)) := rfl
@[simp] theorem State.changeProbe_link (n : ProbeId) (f : Probe → Probe) : (s.changeProbe n f).link = s.link := rfl
@[simp] theorem State.changeProbe_notices (n : ProbeId) (f : Probe → Probe) : (s.changeProbe n f).notices = s.notices := rfl
@[simp] theorem State.changeProbe_pins (n : ProbeId) (f : Probe → Probe) : (s.changeProbe n f).pins = s.pins := rfl
@[simp] theorem State.changeProbe_pending (n : ProbeId) (f : Probe → Probe) : (s.changeProbe n f).pending = s.pending := rfl
@[simp] theorem State.changeProbe_choices (n : ProbeId) (f : Probe → Probe) : (s.changeProbe n f).choices = s.choices := rfl

/-! ### A framing state entered -/

@[simp] theorem State.framed_store (f : Framing) : (s.framed f).store = s.store := rfl
@[simp] theorem State.framed_corrections (f : Framing) : (s.framed f).corrections = s.corrections := rfl
@[simp] theorem State.framed_arbiter (f : Framing) : (s.framed f).arbiter = s.arbiter := rfl
@[simp] theorem State.framed_hygiene (f : Framing) : (s.framed f).hygiene = s.hygiene := rfl
@[simp] theorem State.framed_scanner (f : Framing) : (s.framed f).scanner = s.scanner := rfl
@[simp] theorem State.framed_probes (f : Framing) : (s.framed f).probes = s.probes := rfl
@[simp] theorem State.framed_link (f : Framing) : (s.framed f).link = { s.link with framing := f, stall := if f = .idle then none else some Config.stallPeriods } := rfl
@[simp] theorem State.framed_notices (f : Framing) : (s.framed f).notices = s.notices := rfl
@[simp] theorem State.framed_pins (f : Framing) : (s.framed f).pins = s.pins := rfl
@[simp] theorem State.framed_pending (f : Framing) : (s.framed f).pending = s.pending := rfl
@[simp] theorem State.framed_choices (f : Framing) : (s.framed f).choices = s.choices := rfl

/-! ### A crystal period -/

@[simp] theorem State.tick_store : (s.tick).store = s.store.map Store.pass := rfl
@[simp] theorem State.tick_corrections : (s.tick).corrections = s.corrections := rfl
@[simp] theorem State.tick_arbiter : (s.tick).arbiter = s.arbiter.pass := rfl
@[simp] theorem State.tick_hygiene : (s.tick).hygiene = { s.hygiene with limit := Timer.pass s.hygiene.limit } := rfl
@[simp] theorem State.tick_scanner : (s.tick).scanner = s.scanner.pass := rfl
@[simp] theorem State.tick_probes : (s.tick).probes = s.probes.map Probe.pass := rfl
@[simp] theorem State.tick_link : (s.tick).link = { s.link with stall := Timer.pass s.link.stall } := rfl
@[simp] theorem State.tick_notices : (s.tick).notices = s.notices := rfl
@[simp] theorem State.tick_pins : (s.tick).pins = s.pins := rfl
@[simp] theorem State.tick_pending : (s.tick).pending = s.pending := rfl
@[simp] theorem State.tick_choices : (s.tick).choices = s.choices := rfl

/-! ### The arbiter's tables -/

@[simp] theorem Arbiter.changeGrant_ports (a : Arbiter) (p : PortId) (f : Grant → Grant) :
    (a.changeGrant p f).ports = a.ports := rfl
@[simp] theorem Arbiter.changeGrant_resume (a : Arbiter) (p : PortId) (f : Grant → Grant) :
    (a.changeGrant p f).resume = a.resume := rfl
@[simp] theorem Arbiter.changeGrant_solarActive (a : Arbiter) (p : PortId) (f : Grant → Grant) :
    (a.changeGrant p f).solarActive = a.solarActive := rfl
@[simp] theorem Arbiter.changeGrant_solarIdle (a : Arbiter) (p : PortId) (f : Grant → Grant) :
    (a.changeGrant p f).solarIdle = a.solarIdle := rfl
@[simp] theorem Arbiter.changeGrant_comfortEmergency (a : Arbiter) (p : PortId) (f : Grant → Grant) :
    (a.changeGrant p f).comfortEmergency = a.comfortEmergency := rfl
@[simp] theorem Arbiter.changeGrant_overheat (a : Arbiter) (p : PortId) (f : Grant → Grant) :
    (a.changeGrant p f).overheat = a.overheat := rfl
@[simp] theorem Arbiter.changeGrant_forecast (a : Arbiter) (p : PortId) (f : Grant → Grant) :
    (a.changeGrant p f).forecast = a.forecast := rfl
@[simp] theorem Arbiter.changeGrant_mustTakeHeat (a : Arbiter) (p : PortId) (f : Grant → Grant) :
    (a.changeGrant p f).mustTakeHeat = a.mustTakeHeat := rfl
@[simp] theorem Arbiter.changeGrant_grants (a : Arbiter) (p : PortId) (f : Grant → Grant) :
    (a.changeGrant p f).grants = a.grants.set p ((a.grants.get p).map f) := rfl

end Sys2Proof.Machine
end

