-- ==== Sys2Proof/Laws/Link.lean ====
section
/-!
SUPPORT. What the Link Controller does with a request, by the state it finds, and what the checks of R167 give for each
kind: the lemmas that a proof about a request cites instead of unfolding the taking of a message.
-/

namespace Sys2Proof.Machine

/-! ### The three ways of a request -/

/-- A message that is taken is handled from the state without it (R169). -/
theorem State.request_taken {s t : State} {m : Message} (h : s.Taking m t) (owner : State → Reply) :
    s.request m owner = t.handle m owner := by
  obtain ⟨h1, h2, ⟨h3, rfl⟩ | ⟨rest, h3, rfl⟩⟩ := h
  · simp [State.request, State.whenRunning, h1, h2, h3]
  · simp [State.request, State.whenRunning, h1, h2, h3]

/-- A message that must wait is offered to the receive queue (R166). -/
theorem State.request_waiting {s : State} {m : Message} (h : s.Waiting m) (owner : State → Reply) :
    s.request m owner = s.offer m := by
  obtain ⟨h1, h2 | ⟨q, rest, h2, h3⟩⟩ := h
  · have : s.link.resetPending.isSome = true := Option.isSome_iff_ne_none.mpr h2
    simp [State.request, State.whenRunning, h1, this]
  · simp [State.request, State.whenRunning, h1, h2, h3]

/-- Under the RESET pin a request is without effect (R180). -/
theorem State.request_held {s : State} (h : s.pins.resetLow = true) (m : Message) (owner : State → Reply) :
    s.request m owner = s := by
  simp [State.request, State.whenRunning, h]

/-- A message that fails a check is answered with its status (R167). -/
theorem State.handle_failed {s : State} {m : Message} {st : Status} (h : m.failedCheck = some st)
    (owner : State → Reply) : s.handle m owner = s.send m { status := st } := by
  simp [State.handle, h]

/-- A message that passes every check is answered by its owner (R169). -/
theorem State.handle_passed {s : State} {m : Message} (h : m.failedCheck = none) (owner : State → Reply) :
    s.handle m owner = (owner s).state.send m (owner s).answer := by
  simp [State.handle, h, Reply.deliver]

/-! ### The answers -/

theorem lowByte_ofNat (n : Nat) : lowByte (BitVec.ofNat 16 n) = BitVec.ofNat 8 n := by
  apply BitVec.eq_of_toNat_eq
  simp [lowByte]

theorem highByte_ofNat (n : Nat) (h : n < 65536) : highByte (BitVec.ofNat 16 n) = BitVec.ofNat 8 (n / 256) := by
  apply BitVec.eq_of_toNat_eq
  simp [highByte, Nat.shiftRight_eq_div_pow]
  omega

/-- The bytes of a short answer (R170). -/
theorem Message.answerWire_short {m : Message} (h : m.longAnswer = false) (a : Answer) :
    m.answerWire a = shortAnswer m.kind m.channel (BitVec.ofNat 8 a.status.code) (BitVec.ofNat 8 a.value) := by
  simp [Message.answerWire, h, shortAnswer, header, ident]

/-- The bytes of a long answer (R170). -/
theorem Message.answerWire_long {m : Message} (h : m.longAnswer = true) (a : Answer) (hb : a.body.length < 65534) :
    m.answerWire a
      = longAnswer m.kind m.channel (BitVec.ofNat 8 a.status.code) (BitVec.ofNat 8 a.value) a.body := by
  have hc : ∀ c : BitVec 16, lowByte c = BitVec.ofNat 8 c.toNat ∧ highByte c = BitVec.ofNat 8 (c.toNat / 256) := by
    intro c
    have := lowByte_ofNat c.toNat
    have := highByte_ofNat c.toNat c.isLt
    simp_all
  simp only [Message.answerWire, h, if_true, longWire, longAnswer, header, ident, List.length_cons]
  rw [lowByte_ofNat, highByte_ofNat _ (by omega), (hc _).1, (hc _).2]

/-! ### The checks, by kind -/

/-- No check looks at the parameter bytes of a short message (R167). -/
theorem failedCheck_parameters (kind : BitVec 5) (ch : Channel) (p0 p1 : Byte) :
    Message.failedCheck ⟨kind, ch, .short p0 p1⟩ = Message.failedCheck ⟨kind, ch, .short 0 0⟩ := by
  simp only [Message.failedCheck]
  rcases kindEntry kind.toNat with _ | ⟨a, _ | n, l⟩ <;> rfl

/-- The short kinds of channel 0 alone pass every check on channel 0 and fail the channel check elsewhere (R167, R168). -/
theorem failedCheck_supervisor (k : Nat) (hk : k ∈ [1, 2, 3, 4, 5, 8, 9, 10, 11, 12, 13, 14, 15]) (ch : Channel)
    (p0 p1 : Byte) : Message.failedCheck ⟨BitVec.ofNat 5 k, ch, .short p0 p1⟩
      = if ch = 0 then none else some .errChannel := by
  simp only [List.mem_cons, List.not_mem_nil, or_false] at hk
  rcases hk with rfl | rfl | rfl | rfl | rfl | rfl | rfl | rfl | rfl | rfl | rfl | rfl | rfl <;>
    (rw [failedCheck_parameters]; revert ch; decide)

/-- The short kinds of the port channels pass every check on channels 1 to 6 (R167, R168). -/
theorem failedCheck_ports (k : Nat) (hk : k ∈ [6, 7]) (ch : Channel) (p0 p1 : Byte) :
    Message.failedCheck ⟨BitVec.ofNat 5 k, ch, .short p0 p1⟩
      = if ch = 0 ∨ ch = 7 then some .errChannel else none := by
  simp only [List.mem_cons, List.not_mem_nil, or_false] at hk
  rcases hk with rfl | rfl <;>
    (rw [failedCheck_parameters]; revert ch; decide)

/-- IDENTIFY passes every check but on channel 7 (R167, R168). -/
theorem failedCheck_identify (ch : Channel) (p0 p1 : Byte) :
    Message.failedCheck ⟨0, ch, .short p0 p1⟩ = if ch = 7 then some .errChannel else none := by
  rw [failedCheck_parameters]; revert ch; decide

/-- A long message whose count and checksum are good: the checks that are left (R167). -/
theorem failedCheck_long (kind : BitVec 5) (ch : Channel) (p : List Byte) (h1 : 1 ≤ p.length) (h2 : p.length ≤ 1024) :
    Message.failedCheck ⟨kind, ch, .long (.full p (crc16 p))⟩
      = match kindEntry kind.toNat with
        | none => some .errKind
        | some e =>
          if !e.allowed.admits ch then some .errChannel
          else if (⟨kind, ch, .long (.full p (crc16 p))⟩ : Message).badLength e then some .errLength
          else if (⟨kind, ch, .long (.full p (crc16 p))⟩ : Message).badSelector then some .errRange
          else none := by
  have hb : (⟨kind, ch, .long (.full p (crc16 p))⟩ : Message).badCount = false := by
    simp only [Message.badCount, Config.maxCount]
    have a : (p.length == 0) = false := by simp; intro hn; simp [hn] at h1
    rw [a, Bool.false_or]
    exact decide_eq_false (by omega)
  simp only [Message.failedCheck, hb, Message.badChecksum, bne_self_eq_false]
  rfl

/-- The configuring kinds of channel 0 with their payload's length pass every check (R167, R168). -/
theorem failedCheck_configure (k n : Nat) (hk : (k, n) ∈ [(16, 49), (17, 16), (18, 14)]) (p : List Byte)
    (h : p.length = n) : Message.failedCheck ⟨BitVec.ofNat 5 k, 0, .long (.full p (crc16 p))⟩ = none := by
  simp only [List.mem_cons, List.not_mem_nil, or_false, Prod.mk.injEq] at hk
  rcases hk with ⟨rfl, rfl⟩ | ⟨rfl, rfl⟩ | ⟨rfl, rfl⟩ <;>
    (rw [failedCheck_long _ _ _ (by omega) (by omega)]
     rcases p with _ | ⟨b, _ | ⟨c, p⟩⟩ <;>
       simp_all [kindEntry, Allowed.admits, Message.badLength, Message.badSelector])

/-- REQUEST_CHARGE and DEPOSIT of five payload bytes pass every check on channels 1 to 6 (R167, R168). -/
theorem failedCheck_portLong (k : Nat) (hk : k ∈ [19, 20]) (ch : Channel) (hc : ch ≠ 0 ∧ ch ≠ 7) (p : List Byte)
    (h : p.length = 5) : Message.failedCheck ⟨BitVec.ofNat 5 k, ch, .long (.full p (crc16 p))⟩ = none := by
  simp only [List.mem_cons, List.not_mem_nil, or_false] at hk
  rcases hk with rfl | rfl <;>
    (rw [failedCheck_long _ _ _ (by omega) (by omega)]
     rcases p with _ | ⟨b, _ | ⟨c, p⟩⟩ <;>
       simp_all [kindEntry, Allowed.admits, Message.badLength, Message.badSelector])

/-- READ of one payload byte of 0 to 4 passes every check on channel 0 (R167, R168). -/
theorem failedCheck_read (b : Byte) (hb : b.toNat ≤ 4) :
    Message.failedCheck ⟨21, 0, .long (.full [b] (crc16 [b]))⟩ = none := by
  rw [failedCheck_long _ _ _ (by simp) (by simp)]
  simp [kindEntry, Allowed.admits, Message.badLength, Message.badSelector]
  omega

/-! ### A request that passes every check, whole -/

/-- A short answer sent. -/
theorem State.send_short {m : Message} (h : m.longAnswer = false) (s : State) (a : Answer) :
    s.send m a = s.sent (shortAnswer m.kind m.channel (BitVec.ofNat 8 a.status.code) (BitVec.ofNat 8 a.value)) := by
  simp [State.send, State.sent, Message.answerWire_short h]

/-- A long answer sent. -/
theorem State.send_long {m : Message} (h : m.longAnswer = true) (s : State) (a : Answer) (hb : a.body.length < 65534) :
    s.send m a
      = s.sent (longAnswer m.kind m.channel (BitVec.ofNat 8 a.status.code) (BitVec.ofNat 8 a.value) a.body) := by
  simp [State.send, State.sent, Message.answerWire_long h a hb]

/-- The channel of a port is one of the port channels and names the port (R168). -/
theorem PortId.channel (p : PortId) :
    BitVec.ofNat 3 p.number ≠ 0 ∧ BitVec.ofNat 3 p.number ≠ 7
      ∧ PortId.ofNumber (BitVec.ofNat 3 p.number).toNat = some p := by cases p <;> decide

/-- A short request of channel 0 with a short answer, taken: its owner's reply, sent (R167 to R170). -/
theorem State.shortRequest_supervisor {s t : State} {p0 p1 : Byte} (k : Nat)
    (hk : k ∈ [1, 2, 3, 4, 8, 9, 10, 11, 13, 14]) (h : s.Taking ⟨BitVec.ofNat 5 k, 0, .short p0 p1⟩ t)
    (owner : State → Reply) :
    s.shortRequest k 0 p0 p1 owner = (owner t).state.sent (shortAnswer (BitVec.ofNat 5 k) 0
      (BitVec.ofNat 8 (owner t).answer.status.code) (BitVec.ofNat 8 (owner t).answer.value)) := by
  unfold State.shortRequest
  rw [State.request_taken h, State.handle_passed, State.send_short]
  · simp only [List.mem_cons, List.not_mem_nil, or_false] at hk
    rcases hk with rfl | rfl | rfl | rfl | rfl | rfl | rfl | rfl | rfl | rfl <;> rfl
  · rw [failedCheck_supervisor k (by simp at hk ⊢; omega)]; rfl

/-- A short request of channel 0 with a long answer, taken (R167 to R170). -/
theorem State.shortRequest_longAnswer {s t : State} {p0 p1 : Byte} (k : Nat) (hk : k ∈ [5, 12, 15])
    (h : s.Taking ⟨BitVec.ofNat 5 k, 0, .short p0 p1⟩ t) (owner : State → Reply)
    (hb : (owner t).answer.body.length < 65534) :
    s.shortRequest k 0 p0 p1 owner = (owner t).state.sent (longAnswer (BitVec.ofNat 5 k) 0
      (BitVec.ofNat 8 (owner t).answer.status.code) (BitVec.ofNat 8 (owner t).answer.value) (owner t).answer.body) := by
  unfold State.shortRequest
  rw [State.request_taken h, State.handle_passed, State.send_long _ _ _ hb]
  · simp only [List.mem_cons, List.not_mem_nil, or_false] at hk
    rcases hk with rfl | rfl | rfl <;> rfl
  · rw [failedCheck_supervisor k (by simp at hk ⊢; omega)]; rfl

/-- A short request of a port's channel, taken (R167 to R170). -/
theorem State.shortRequest_port {s t : State} {p : PortId} {p0 p1 : Byte} (k : Nat) (hk : k ∈ [6, 7])
    (h : s.Taking ⟨BitVec.ofNat 5 k, BitVec.ofNat 3 p.number, .short p0 p1⟩ t) (owner : State → Reply) :
    s.shortRequest k (BitVec.ofNat 3 p.number) p0 p1 owner
      = (owner t).state.sent (shortAnswer (BitVec.ofNat 5 k) (BitVec.ofNat 3 p.number)
        (BitVec.ofNat 8 (owner t).answer.status.code) (BitVec.ofNat 8 (owner t).answer.value)) := by
  unfold State.shortRequest
  rw [State.request_taken h, State.handle_passed, State.send_short]
  · simp only [List.mem_cons, List.not_mem_nil, or_false] at hk
    rcases hk with rfl | rfl <;> rfl
  · rw [failedCheck_ports k hk]
    simpa using And.intro (PortId.channel p).1 (PortId.channel p).2.1

/-- A configuring request of a good payload, taken (R167 to R170). -/
theorem State.longRequest_configure {s t : State} {body : LongBody} {p : List Byte} (k n : Nat)
    (hk : (k, n) ∈ [(16, 49), (17, 16), (18, 14)]) (h : s.Taking ⟨BitVec.ofNat 5 k, 0, .long body⟩ t)
    (hg : LongBodyGood body p n) (owner : List Byte → State → Reply) :
    s.longRequest k 0 body owner = (owner p t).state.sent (shortAnswer (BitVec.ofNat 5 k) 0
      (BitVec.ofNat 8 (owner p t).answer.status.code) (BitVec.ofNat 8 (owner p t).answer.value)) := by
  obtain ⟨rfl, hl⟩ := hg
  unfold State.longRequest
  rw [State.request_taken h, State.handle_passed, State.send_short]
  · simp only [List.mem_cons, List.not_mem_nil, or_false, Prod.mk.injEq] at hk
    rcases hk with ⟨rfl, rfl⟩ | ⟨rfl, rfl⟩ | ⟨rfl, rfl⟩ <;> rfl
  · exact failedCheck_configure k n hk p hl

/-- A REQUEST_CHARGE or DEPOSIT of a good payload on a port's channel, taken (R167 to R170). -/
theorem State.longRequest_port {s t : State} {q : PortId} {body : LongBody} {p : List Byte} (k : Nat) (hk : k ∈ [19, 20])
    (h : s.Taking ⟨BitVec.ofNat 5 k, BitVec.ofNat 3 q.number, .long body⟩ t) (hg : LongBodyGood body p 5)
    (owner : List Byte → State → Reply) (hb : (owner p t).answer.body.length < 65534) :
    s.longRequest k (BitVec.ofNat 3 q.number) body owner
      = (owner p t).state.sent (longAnswer (BitVec.ofNat 5 k) (BitVec.ofNat 3 q.number)
        (BitVec.ofNat 8 (owner p t).answer.status.code) (BitVec.ofNat 8 (owner p t).answer.value)
        (owner p t).answer.body) := by
  obtain ⟨rfl, hl⟩ := hg
  unfold State.longRequest
  rw [State.request_taken h, State.handle_passed, State.send_long]
  · simp only [List.mem_cons, List.not_mem_nil, or_false] at hk
    rcases hk with rfl | rfl <;> (revert q; intro q; cases q <;> intros <;> rfl)
  · exact hb
  · exact failedCheck_portLong k hk _ ⟨(PortId.channel q).1, (PortId.channel q).2.1⟩ p hl

/-- A READ of a good selector, taken (R167 to R170). -/
theorem State.longRequest_read {s t : State} {body : LongBody} (b : Byte) (hb4 : b.toNat ≤ 4)
    (h : s.Taking ⟨21, 0, .long body⟩ t) (hg : LongBodyGood body [b] 1) (owner : List Byte → State → Reply)
    (hb : (owner [b] t).answer.body.length < 65534) :
    s.longRequest 21 0 body owner = (owner [b] t).state.sent (longAnswer 21 0
      (BitVec.ofNat 8 (owner [b] t).answer.status.code) (BitVec.ofNat 8 (owner [b] t).answer.value)
      (owner [b] t).answer.body) := by
  obtain ⟨rfl, hl⟩ := hg
  unfold State.longRequest
  change State.request s ⟨21, 0, .long (.full [b] (crc16 [b]))⟩ _ = _
  rw [State.request_taken h, State.handle_passed, State.send_long]
  · rfl
  · exact hb
  · exact failedCheck_read b hb4

end Sys2Proof.Machine
end

