-- ==== Sys2Proof/Laws/Slots.lean ====
section
/-!
SUPPORT. Reading a table of slots after a write, for ports and probes, and their numbers.
-/

namespace Sys2Proof

variable {α β : Type}

/-! ### Ports -/

@[simp] theorem PerPort.get_set_same (t : PerPort α) (p : PortId) (a : α) : (t.set p a).get p = a := by cases p <;> rfl

theorem PerPort.get_set_other (t : PerPort α) {p q : PortId} (a : α) (h : q ≠ p) : (t.set p a).get q = t.get q := by
  cases p <;> cases q <;> first | rfl | exact absurd rfl h

theorem PerPort.get_set (t : PerPort α) (p q : PortId) (a : α) :
    (t.set p a).get q = if q = p then a else t.get q := by
  split
  · next h => subst h; simp
  · next h => exact t.get_set_other a h

@[simp] theorem PerPort.get_map (t : PerPort α) (f : α → β) (p : PortId) : (t.map f).get p = f (t.get p) := by
  cases p <;> rfl

@[simp] theorem PerPort.get_replicate (a : α) (p : PortId) : (PerPort.replicate a).get p = a := by cases p <;> rfl

theorem PerPort.ext_get {t u : PerPort α} (h : ∀ p, t.get p = u.get p) : t = u := by
  cases t; cases u
  have h1 := h .p1; have h2 := h .p2; have h3 := h .p3; have h4 := h .p4; have h5 := h .p5; have h6 := h .p6
  simp only [PerPort.get] at h1 h2 h3 h4 h5 h6
  simp [h1, h2, h3, h4, h5, h6]

@[simp] theorem PerPort.set_get (t : PerPort α) (p : PortId) : t.set p (t.get p) = t := by cases p <;> rfl

@[simp] theorem PortId.mem_all (p : PortId) : p ∈ PortId.all := by cases p <;> decide

@[simp] theorem PortId.ofNumber_number (p : PortId) : PortId.ofNumber p.number = some p := by cases p <;> rfl

theorem PortId.number_of_ofNumber {n : Nat} {p : PortId} (h : PortId.ofNumber n = some p) : p.number = n := by
  unfold PortId.ofNumber at h
  split at h <;> cases h <;> rfl

theorem PortId.all_nodup : PortId.all.Nodup := by decide

/-! ### Probes -/

@[simp] theorem PerProbe.get_set_same (t : PerProbe α) (n : ProbeId) (a : α) : (t.set n a).get n = a := by
  cases n <;> rfl

theorem PerProbe.get_set_other (t : PerProbe α) {n k : ProbeId} (a : α) (h : k ≠ n) : (t.set n a).get k = t.get k := by
  cases n <;> cases k <;> first | rfl | exact absurd rfl h

theorem PerProbe.get_set (t : PerProbe α) (n k : ProbeId) (a : α) :
    (t.set n a).get k = if k = n then a else t.get k := by
  split
  · next h => subst h; simp
  · next h => exact t.get_set_other a h

@[simp] theorem PerProbe.get_map (t : PerProbe α) (f : α → β) (n : ProbeId) : (t.map f).get n = f (t.get n) := by
  cases n <;> rfl

@[simp] theorem PerProbe.get_replicate (a : α) (n : ProbeId) : (PerProbe.replicate a).get n = a := by cases n <;> rfl

@[simp] theorem ProbeId.mem_all (n : ProbeId) : n ∈ ProbeId.all := by cases n <;> decide

@[simp] theorem ProbeId.ofNumber_number (n : ProbeId) : ProbeId.ofNumber n.number = some n := by cases n <;> rfl

theorem ProbeId.number_of_ofNumber {k : Nat} {n : ProbeId} (h : ProbeId.ofNumber k = some n) : n.number = k := by
  unfold ProbeId.ofNumber at h
  split at h <;> cases h <;> rfl

end Sys2Proof
end

