-- ==== Sys2Proof/Laws/Ops.lean ====
section
/-!
SUPPORT. What the operations the blocks share may touch: ending, holding, suspending and resuming grants, the overheat and
comfort tests, the Hygiene Monitor's look and a model-changed report leave the store, the probes, the scanner, the link, the
pins and the queue of commands as they were.
-/

namespace Sys2Proof.Machine

/-! ### The relation -/

theorem State.TouchesGrants.refl (s : State) : s.TouchesGrants s := ⟨rfl, rfl, fun _ h => h⟩

theorem State.TouchesGrants.trans {s t u : State} (h1 : s.TouchesGrants t) (h2 : t.TouchesGrants u) :
    s.TouchesGrants u := by
  obtain ⟨e1, m1, f1⟩ := h1
  obtain ⟨e2, m2, f2⟩ := h2
  refine ⟨?_, m2.trans m1, fun i hi => f2 i (f1 i hi)⟩
  rw [e2, e1]

/-- A change of the Arbiter alone. -/
theorem State.touches_arbiter (s : State) (a : Arbiter) : s.TouchesGrants { s with arbiter := a } :=
  ⟨rfl, rfl, fun _ h => h⟩

/-- A change of the Hygiene Monitor alone. -/
theorem State.touches_hygiene (s : State) (h : Hygiene) : s.TouchesGrants { s with hygiene := h } :=
  ⟨rfl, rfl, fun _ h => h⟩

/-- A fold of operations that touch grants touches grants. -/
theorem State.touches_foldl {α : Type} (f : State → α → State) (hf : ∀ (s : State) (a : α), s.TouchesGrants (f s a)) :
    ∀ (l : List α) (s : State), s.TouchesGrants (l.foldl f s)
  | [], s => .refl s
  | a :: l, s => (hf s a).trans (State.touches_foldl f hf l (f s a))

/-! ### Notices -/

theorem State.touches_raise (s : State) (n : Notice) : s.TouchesGrants (s.raise n) := by
  refine ⟨rfl, rfl, fun i hi => ?_⟩
  simp [NoticeRegister.raise, NoticeRegister.reevaluate, hi]

theorem State.touches_raiseIf (s : State) (c : Bool) (n : Notice) : s.TouchesGrants (s.raiseIf c n) := by
  cases c
  · exact .refl s
  · exact s.touches_raise n

theorem State.touches_chosen (s : State) : s.TouchesGrants s.chosen := ⟨rfl, rfl, fun _ h => h⟩

/-! ### Retirement -/

theorem State.touches_changeGrant (s : State) (p : PortId) (f : Grant → Grant) : s.TouchesGrants (s.changeGrant p f) :=
  s.touches_arbiter _

theorem State.touches_changePort (s : State) (p : PortId) (f : Port → Port) : s.TouchesGrants (s.changePort p f) :=
  s.touches_arbiter _

theorem State.touches_hygieneRunFailed (s : State) : s.TouchesGrants s.hygieneRunFailed := by
  unfold State.hygieneRunFailed
  split
  · exact (s.touches_hygiene _).trans (State.touches_raise _ _)
  · exact .refl s

theorem State.touches_retireHoldingSolar (s : State) (p : PortId) (r : Reason) :
    s.TouchesGrants (s.retireHoldingSolar p r) := by
  unfold State.retireHoldingSolar
  split
  · exact .refl s
  · next g hg =>
    have h1 := (s.touches_arbiter (s.arbiter.endGrant p g.handle r)).trans
      ((State.touches_raiseIf _ (!r.asPlanned) .grantEnded).trans
        (State.touches_raiseIf _ (decide (r = .abandoned)) .resumeDropped))
    dsimp only
    split
    · exact h1.trans (State.touches_hygieneRunFailed _)
    · exact h1

theorem State.touches_retireAll (s : State) (r : Reason) (ps : List PortId) : s.TouchesGrants (s.retireAll r ps) :=
  State.touches_foldl _ (fun s p => s.touches_retireHoldingSolar p r) ps s

/-- A port without a grant: nothing to retire. -/
theorem State.retireHoldingSolar_none {s : State} {p : PortId} (h : s.grant p = none) (r : Reason) :
    s.retireHoldingSolar p r = s := by
  simp [State.retireHoldingSolar, h]

/-- The grant table after a retirement (R101). -/
theorem State.grant_retireHoldingSolar (s : State) (p q : PortId) (r : Reason) :
    (s.retireHoldingSolar p r).grant q = if q = p then none else s.grant q := by
  unfold State.retireHoldingSolar
  split
  · next h =>
    split
    · next e => rw [e, h]
    · rfl
  · next g hg =>
    have key : ∀ t : State, t.arbiter = s.arbiter.endGrant p g.handle r →
        t.grant q = if q = p then none else s.grant q := by
      intro t ht
      unfold State.grant Arbiter.grant
      rw [ht]
      exact PerPort.get_set _ _ _ _
    dsimp only
    split
    · apply key
      unfold State.hygieneRunFailed
      split <;> simp
    · apply key
      simp

/-! ### Suspension and resumption -/

theorem State.touches_removeMarks (s : State) : s.TouchesGrants s.removeMarks := s.touches_arbiter _

theorem State.touches_pushResume (s : State) (p : PortId) : s.TouchesGrants (s.pushResume p) := by
  unfold State.pushResume
  dsimp only
  split
  · split
    · exact (s.touches_retireHoldingSolar _ _).trans (State.touches_arbiter _ _)
    · exact s.touches_arbiter _
  · exact s.touches_arbiter _

theorem State.touches_suspend (s : State) (p : PortId) : s.TouchesGrants (s.suspend p) :=
  (s.touches_changeGrant p _).trans (State.touches_pushResume _ p)

theorem State.touches_standAsidePort (s : State) (p : PortId) : s.TouchesGrants (s.standAsidePort p) := by
  unfold State.standAsidePort
  split
  · exact .refl s
  · split
    · exact .refl s
    · split
      · exact s.touches_suspend p
      · exact s.touches_changeGrant p _

theorem State.touches_standAside (s : State) : s.TouchesGrants s.standAside :=
  State.touches_foldl _ State.touches_standAsidePort _ s

theorem State.touches_resumeGrant (s : State) (p : PortId) : s.TouchesGrants (s.resumeGrant p) := by
  unfold State.resumeGrant
  split
  · split
    · dsimp only
      split
      · exact s.touches_retireHoldingSolar p _
      · exact s.touches_changeGrant p _
    · exact .refl s
  · exact .refl s

theorem State.touches_popEntries : ∀ (l : List PortId) (s : State), s.TouchesGrants (State.popEntries l s)
  | [], s => .refl s
  | p :: rest, s =>
    ((s.touches_arbiter _).trans (State.touches_resumeGrant _ p)).trans (State.touches_popEntries rest _)

theorem State.touches_popResume (s : State) : s.TouchesGrants s.popResume := State.touches_popEntries _ s

theorem State.touches_clearSolar (s : State) : s.TouchesGrants s.clearSolar := by
  unfold State.clearSolar
  split
  · exact (((s.touches_arbiter _).trans (State.touches_raise _ _)).trans (State.touches_removeMarks _)).trans
      (State.touches_popResume _)
  · exact .refl s

theorem State.touches_productiveDeposit (s : State) : s.TouchesGrants s.productiveDeposit := by
  unfold State.productiveDeposit
  split
  · exact .refl s
  · dsimp only
    split
    · exact s.touches_arbiter _
    · split
      · exact (s.touches_arbiter _).trans (State.touches_raise _ .solarChanged)
      · exact ((s.touches_arbiter _).trans (State.touches_raise _ .solarChanged)).trans (State.touches_standAside _)

theorem State.touches_retire (s : State) (p : PortId) (r : Reason) : s.TouchesGrants (s.retire p r) := by
  unfold State.retire
  split
  · exact .refl s
  · dsimp only
    split
    · exact (s.touches_retireHoldingSolar p r).trans (State.touches_clearSolar _)
    · exact s.touches_retireHoldingSolar p r

/-! ### The tests of a report -/

theorem State.touches_enterEmergency (s : State) : s.TouchesGrants s.enterEmergency :=
  (((s.touches_arbiter _).trans (State.touches_raise _ _)).trans (State.touches_removeMarks _)).trans
    (State.touches_popResume _)

theorem State.touches_leaveEmergency (s : State) : s.TouchesGrants s.leaveEmergency := by
  unfold State.leaveEmergency
  dsimp only
  split
  · exact (s.touches_arbiter _).trans (State.touches_standAside _)
  · exact s.touches_arbiter _

theorem State.touches_compareComfort (s : State) : s.TouchesGrants s.compareComfort := by
  unfold State.compareComfort
  split
  · exact .refl s
  · split
    · exact .refl s
    · split
      · split
        · exact .refl s
        · exact s.touches_enterEmergency
      · split
        · exact s.touches_leaveEmergency
        · exact .refl s

theorem State.touches_setOverheat (s : State) : s.TouchesGrants s.setOverheat :=
  ((s.touches_retireAll _ _).trans (State.touches_arbiter _ _)).trans (State.touches_raise _ _)

theorem State.touches_clearOverheat (s : State) : s.TouchesGrants s.clearOverheat :=
  (s.touches_arbiter _).trans (State.touches_raise _ _)

theorem State.touches_testOverheat (s : State) : s.TouchesGrants s.testOverheat := by
  unfold State.testOverheat
  split
  · exact .refl s
  · split
    · split
      · exact s.touches_clearOverheat
      · exact .refl s
    · split
      · exact s.touches_setOverheat
      · exact .refl s

theorem State.touches_hygieneLook (s : State) : s.TouchesGrants s.hygieneLook := by
  unfold State.hygieneLook
  split
  · exact .refl s
  · split
    · split
      · exact (s.touches_hygiene _).trans (State.touches_raise _ _)
      · exact .refl s
    · split
      · exact (s.touches_hygiene _).trans (State.touches_raise _ _)
      · exact .refl s
    · split
      · exact ((s.touches_hygiene _).trans (State.touches_raise _ _)).trans (State.touches_retireAll _ _ _)
      · exact .refl s

theorem State.touches_arbiterReport (s : State) : s.TouchesGrants s.arbiterReport :=
  s.touches_testOverheat.trans (State.touches_compareComfort _)

/-- A model-changed report touches the Arbiter, the Hygiene Monitor and the flags, and nothing else (R22). -/
theorem State.touches_modelChanged (s : State) : s.TouchesGrants s.modelChanged := by
  have a := (s.touches_arbiterReport).trans (State.touches_hygieneLook _)
  have b := s.touches_chosen.trans ((State.touches_arbiterReport s.chosen).trans (State.touches_hygieneLook _))
  have c := s.touches_chosen.trans ((State.touches_hygieneLook s.chosen).trans (State.touches_arbiterReport _))
  unfold State.modelChanged
  split
  · split
    · exact c
    · exact b
    · exact b
  · exact a

/-- What a relation of this kind says of each field it leaves. -/
theorem State.TouchesGrants.fields {s t : State} (h : s.TouchesGrants t) :
    t.store = s.store ∧ t.corrections = s.corrections ∧ t.scanner = s.scanner ∧ t.probes = s.probes ∧ t.link = s.link
      ∧ t.pins = s.pins ∧ t.pending = s.pending := by
  obtain ⟨e, -, -⟩ := h
  rw [e]
  exact ⟨rfl, rfl, rfl, rfl, rfl, rfl, rfl⟩

/-! ### Pushing onto the resume list -/

/-- A push with room (R118). -/
theorem State.pushResume_of_room {s : State} {p : PortId} (h : s.arbiter.resume.length < 4) :
    s.pushResume p = { s with arbiter := { s.arbiter with resume := p :: s.arbiter.resume } } := by
  have hc : ¬Config.resumeCapacity ≤ s.arbiter.resume.length := Nat.not_le.mpr h
  simp only [State.pushResume, if_neg hc]

/-- A push onto a full list: its bottom entry retires ABANDONED first (R118). -/
theorem State.pushResume_of_full {s : State} {p q : PortId} {above : List PortId} (h : s.arbiter.resume = above ++ [q])
    (hl : 3 ≤ above.length) :
    s.pushResume p =
      { s.retireHoldingSolar q .abandoned with
        arbiter := { (s.retireHoldingSolar q .abandoned).arbiter with
          resume := p :: (s.retireHoldingSolar q .abandoned).arbiter.resume } } := by
  have hc : Config.resumeCapacity ≤ s.arbiter.resume.length := by
    rw [h, List.length_append]
    exact Nat.succ_le_succ hl
  have hq : s.arbiter.resume.getLast? = some q := by rw [h, List.getLast?_concat]
  simp only [State.pushResume, if_pos hc, hq]

/-! ### Clearing solar-active -/

/-- Solar-active cleared, as one record update before the marks go and the list is popped (R113, R116). -/
theorem State.clearSolar_of_active {s : State} (h : s.arbiter.solarActive = true) :
    s.clearSolar = State.popResume (State.removeMarks
      { s with
        arbiter := { s.arbiter with solarActive := false, solarIdle := none }
        notices := s.notices.raise .solarChanged }) := by
  simp only [State.clearSolar, h, if_true]
  rfl

/-- With solar-active clear there is nothing to clear. -/
theorem State.clearSolar_of_clear {s : State} (h : s.arbiter.solarActive = false) : s.clearSolar = s := by
  simp [State.clearSolar, h]

/-! ### Corrections -/

/-- A correction taken leaves those behind it, and neither the link nor the pins change (R154). -/
theorem State.takeCorrection_fields (s : State) :
    s.takeCorrection.corrections = s.corrections.tail ∧ s.takeCorrection.link = s.link ∧ s.takeCorrection.pins = s.pins := by
  unfold State.takeCorrection
  cases h : s.corrections with
  | nil => exact ⟨h, rfl, rfl⟩
  | cons c rest =>
    cases s.store with
    | none => exact ⟨rfl, rfl, rfl⟩
    | some st => refine ⟨?_, ?_, ?_⟩ <;> (dsimp only [List.tail_cons]; rw [(State.touches_modelChanged _).1]; rfl)

theorem State.takeCorrections_fields (n : Nat) (s : State) :
    (State.takeCorrections n s).corrections = s.corrections.drop n
      ∧ (State.takeCorrections n s).link = s.link ∧ (State.takeCorrections n s).pins = s.pins := by
  induction n generalizing s with
  | zero => exact ⟨rfl, rfl, rfl⟩
  | succ n ih =>
    obtain ⟨a, b, c⟩ := ih s.takeCorrection
    obtain ⟨d, e, f⟩ := s.takeCorrection_fields
    exact ⟨by rw [State.takeCorrections, a, d, List.drop_tail], b.trans e, c.trans f⟩

/-- With every correction taken none waits, and neither the link nor the pins have changed. -/
theorem State.settleCorrections_fields (s : State) :
    s.settleCorrections.corrections = [] ∧ s.settleCorrections.link = s.link ∧ s.settleCorrections.pins = s.pins := by
  obtain ⟨a, b, c⟩ := State.takeCorrections_fields s.corrections.length s
  exact ⟨a.trans List.drop_length, b, c⟩

end Sys2Proof.Machine
end

