-- ==== Sys2Proof/Laws/Strata.lean ====
section
/-!
SUPPORT. What the small steps on a stratum list do to its volume, its heat and its length (chapter 2): one lemma for each
step, cited instead of unfolding it.
-/

namespace Sys2Proof.Machine

/-! ### Sums -/

@[simp] theorem volumeOf_nil : volumeOf [] = 0 := rfl
@[simp] theorem volumeOf_cons (s : Stratum) (l : List Stratum) : volumeOf (s :: l) = s.volume + volumeOf l := by
  simp [volumeOf]
@[simp] theorem volumeOf_append (l m : List Stratum) : volumeOf (l ++ m) = volumeOf l + volumeOf m := by
  simp [volumeOf]
@[simp] theorem heatOf_nil : heatOf [] = 0 := rfl
@[simp] theorem heatOf_cons (s : Stratum) (l : List Stratum) : heatOf (s :: l) = s.volume * s.temp + heatOf l := by
  simp [heatOf]
@[simp] theorem heatOf_append (l m : List Stratum) : heatOf (l ++ m) = heatOf l + heatOf m := by
  simp [heatOf]
@[simp] theorem mergePair_volume (a b : Stratum) : (mergePair a b).volume = a.volume + b.volume := rfl

/-! ### One merge of normalization -/

/-- A merge of the first step joins one pair: volume kept, one record fewer (R27). -/
theorem mergeInBand_some {band : Nat} : ∀ {l m : List Stratum}, mergeInBand band l = some m →
    volumeOf m = volumeOf l ∧ m.length + 1 = l.length
  | [], _, h => by simp [mergeInBand] at h
  | [_], _, h => by simp [mergeInBand] at h
  | a :: b :: rest, m, h => by
    simp only [mergeInBand] at h
    split at h
    · cases h; simp; omega
    · simp only [Option.map_eq_some_iff] at h
      obtain ⟨x, hx, rfl⟩ := h
      have := mergeInBand_some hx
      simp_all

/-- The first step finds nothing exactly on a list that rises by more than the band (R27, R29). -/
theorem mergeInBand_none {band : Nat} : ∀ {l : List Stratum}, mergeInBand band l = none ↔ Rising band l
  | [] => by simp [mergeInBand, Rising]
  | [_] => by simp [mergeInBand, Rising]
  | a :: b :: rest => by
    simp only [mergeInBand, Rising]
    split
    · next h => simp; omega
    · next h =>
      simp only [Option.map_eq_none_iff, mergeInBand_none (l := b :: rest)]
      constructor
      · intro hr; exact ⟨by omega, hr⟩
      · exact fun hr => hr.2

/-- A merge of the second step joins one pair: volume kept, one record fewer (R28). -/
theorem mergeThinAbove_some {minVolume : Nat} : ∀ {below : Stratum} {l m : List Stratum},
    mergeThinAbove minVolume below l = some m →
      volumeOf m = below.volume + volumeOf l ∧ m.length = l.length
  | _, [], _, h => by simp [mergeThinAbove] at h
  | below, [c], m, h => by
    simp only [mergeThinAbove] at h
    split at h
    · cases h; simp
    · cases h
  | below, c :: d :: rest, m, h => by
    simp only [mergeThinAbove] at h
    split at h
    · split at h <;> cases h <;> simp <;> omega
    · simp only [Option.map_eq_some_iff] at h
      obtain ⟨x, hx, rfl⟩ := h
      have := mergeThinAbove_some hx
      simp_all

/-- The second step above a stratum finds nothing exactly when nothing above is thin (R28). -/
theorem mergeThinAbove_none {minVolume : Nat} : ∀ {below : Stratum} {l : List Stratum},
    mergeThinAbove minVolume below l = none ↔ ∀ x ∈ l, minVolume ≤ x.volume
  | _, [] => by simp [mergeThinAbove]
  | below, [c] => by simp [mergeThinAbove]
  | below, c :: d :: rest => by
    simp only [mergeThinAbove]
    split
    · next h =>
      split <;> simp <;> omega
    · next h =>
      simp only [Option.map_eq_none_iff, mergeThinAbove_none (l := d :: rest), List.forall_mem_cons]
      constructor
      · intro hr; exact ⟨by omega, hr⟩
      · exact fun hr => hr.2

/-- The second step joins one pair (R28). -/
theorem mergeThin_some {minVolume : Nat} : ∀ {l m : List Stratum}, mergeThin minVolume l = some m →
    volumeOf m = volumeOf l ∧ m.length + 1 = l.length
  | [], _, h => by simp [mergeThin] at h
  | [_], _, h => by simp [mergeThin] at h
  | a :: b :: rest, m, h => by
    simp only [mergeThin] at h
    split at h
    · cases h; simp; omega
    · have := mergeThinAbove_some h
      simp_all

/-- The second step finds nothing exactly on one stratum or where nothing is thin (R28). -/
theorem mergeThin_none {minVolume : Nat} : ∀ {l : List Stratum},
    mergeThin minVolume l = none ↔ (l.length ≤ 1 ∨ ∀ x ∈ l, minVolume ≤ x.volume)
  | [] => by simp [mergeThin]
  | [_] => by simp [mergeThin]
  | a :: b :: rest => by
    simp only [mergeThin]
    split
    · next h => simp; omega
    · next h =>
      rw [mergeThinAbove_none]
      simp only [List.forall_mem_cons, List.length_cons]
      constructor
      · intro hr; exact .inr ⟨by omega, hr⟩
      · rintro (hr | hr)
        · omega
        · exact hr.2

/-- One merge keeps the volume and shortens the list by one (R29). -/
theorem normalizeOnce_some {band minVolume : Nat} {l m : List Stratum} (h : normalizeOnce band minVolume l = some m) :
    volumeOf m = volumeOf l ∧ m.length + 1 = l.length := by
  unfold normalizeOnce at h
  split at h
  · next x hx => cases h; exact mergeInBand_some hx
  · exact mergeThin_some h

/-- No merge is left exactly on a normal list (R29). -/
theorem normalizeOnce_none {band minVolume : Nat} {l : List Stratum} :
    normalizeOnce band minVolume l = none ↔ NormalList band minVolume l := by
  unfold normalizeOnce NormalList
  split
  · next x hx =>
    simp only [reduceCtorEq, false_iff]
    intro hr
    rw [mergeInBand_none.mpr hr.1] at hx
    cases hx
  · next hx => rw [mergeThin_none]; simp [mergeInBand_none.mp hx]

/-! ### Normalization -/

/-- What any number of merges leaves: the volume, a list no longer, and no empty list made (R29). -/
theorem normalizeUpTo_spec {band minVolume : Nat} : ∀ (n : Nat) (l : List Stratum),
    volumeOf (normalizeUpTo band minVolume n l) = volumeOf l
      ∧ (normalizeUpTo band minVolume n l).length ≤ l.length
      ∧ (l ≠ [] → normalizeUpTo band minVolume n l ≠ [])
  | 0, l => by simp [normalizeUpTo]
  | n + 1, l => by
    unfold normalizeUpTo
    split
    · next m hm =>
      have h1 := normalizeOnce_some hm
      obtain ⟨h2, h3, h4⟩ := normalizeUpTo_spec (band := band) (minVolume := minVolume) n m
      refine ⟨by omega, by omega, fun _ => h4 ?_⟩
      intro he
      subst he
      have : l.length = 1 := by simpa using h1.2.symm
      match l, this with
      | [x], _ => simp [normalizeOnce, mergeInBand, mergeThin] at hm
    · simp

/-- As many merges as there are strata leave no merge to make (R29). -/
theorem normalizeUpTo_ends {band minVolume : Nat} : ∀ (n : Nat) (l : List Stratum), l.length ≤ n →
    normalizeOnce band minVolume (normalizeUpTo band minVolume n l) = none
  | 0, l, h => by
    have : l = [] := List.length_eq_zero_iff.mp (by omega)
    subst this
    simp [normalizeUpTo, normalizeOnce, mergeInBand, mergeThin]
  | n + 1, l, h => by
    unfold normalizeUpTo
    split
    · next m hm =>
      have := normalizeOnce_some hm
      exact normalizeUpTo_ends n m (by omega)
    · next hm => exact hm

/-- Everything normalization leaves: the volume, a list no longer and not empty, and a normal list (R29). -/
theorem normalize_spec (band minVolume : Nat) (l : List Stratum) :
    volumeOf (normalize band minVolume l) = volumeOf l ∧ (normalize band minVolume l).length ≤ l.length
      ∧ (l ≠ [] → normalize band minVolume l ≠ []) ∧ NormalList band minVolume (normalize band minVolume l) := by
  obtain ⟨h1, h2, h3⟩ := normalizeUpTo_spec (band := band) (minVolume := minVolume) l.length l
  exact ⟨h1, h2, h3, normalizeOnce_none.mp (normalizeUpTo_ends l.length l (Nat.le_refl _))⟩

/-! ### The cut -/

/-- A cut at a height within the list: both sides' volumes and heats, at most one record more, and no record of nothing
(R24, R25). -/
theorem cut_spec : ∀ (h : Nat) (l : List Stratum), h ≤ volumeOf l →
    volumeOf (cut h l).1 = h ∧ volumeOf (cut h l).2 = volumeOf l - h
      ∧ heatOf (cut h l).1 + heatOf (cut h l).2 = heatOf l
      ∧ (cut h l).1.length + (cut h l).2.length ≤ l.length + 1
  | h, [], hh => by
    have : h = 0 := by simpa using hh
    simp [cut, this]
  | h, s :: rest, hh => by
    unfold cut
    split
    · next h0 => simp [h0]
    · split
      · next h0 h1 =>
        have ih := cut_spec (h - s.volume) rest (by simp at hh; omega)
        simp only [volumeOf_cons, heatOf_cons, List.length_cons]
        refine ⟨by omega, by omega, by omega, by omega⟩
      · next h0 h1 =>
        simp only [volumeOf_cons, heatOf_cons, List.length_cons, volumeOf_nil, heatOf_nil, List.length_nil]
        refine ⟨by omega, by omega, ?_, by omega⟩
        have : s.volume = h + (s.volume - h) := by omega
        calc h * s.temp + 0 + ((s.volume - h) * s.temp + heatOf rest)
            = (h + (s.volume - h)) * s.temp + heatOf rest := by ring
          _ = s.volume * s.temp + heatOf rest := by rw [← this]

/-- A list whose records each hold water keeps that on both sides of a cut (R24). -/
theorem cut_volumes_pos : ∀ (h : Nat) (l : List Stratum), (∀ x ∈ l, 1 ≤ x.volume) →
    (∀ x ∈ (cut h l).1, 1 ≤ x.volume) ∧ (∀ x ∈ (cut h l).2, 1 ≤ x.volume)
  | _, [], _ => by simp [cut]
  | h, s :: rest, hp => by
    have hs := hp s (by simp)
    have hr : ∀ x ∈ rest, 1 ≤ x.volume := fun x hx => hp x (by simp [hx])
    unfold cut
    split
    · exact ⟨by simp, hp⟩
    · split
      · have ih := cut_volumes_pos (h - s.volume) rest hr
        refine ⟨?_, ih.2⟩
        intro x hx
        simp only [List.mem_cons] at hx
        rcases hx with rfl | hx
        · exact hs
        · exact ih.1 x hx
      · refine ⟨?_, ?_⟩
        · intro x hx
          simp only [List.mem_singleton] at hx
          subst hx
          simp
          omega
        · intro x hx
          simp only [List.mem_cons] at hx
          rcases hx with rfl | hx
          · simp; omega
          · exact hr x hx

/-! ### Making room -/

/-- Two records or more have a smallest difference. -/
theorem smallestRise_isSome : ∀ (a b : Stratum) (rest : List Stratum), (smallestRise (a :: b :: rest)).isSome
  | a, b, rest => by
    unfold smallestRise
    split <;> rfl

/-- The smallest difference is the difference of some adjacent pair, which is merged (R30). -/
theorem mergeAtRise_spec : ∀ (l : List Stratum) (r : Int), smallestRise l = some r →
    volumeOf (mergeAtRise r l) = volumeOf l ∧ (mergeAtRise r l).length + 1 = l.length
  | [], r, h => by simp [smallestRise] at h
  | [_], r, h => by simp [smallestRise] at h
  | a :: b :: rest, r, h => by
    unfold mergeAtRise
    split
    · simp; omega
    · next hne =>
      unfold smallestRise at h
      split at h
      · next r' hr' =>
        have hrr : r' = r := by
          simp only [Option.some.injEq] at h
          omega
        subst hrr
        have ih := mergeAtRise_spec (b :: rest) r' hr'
        simp only [volumeOf_cons, List.length_cons] at ih ⊢
        omega
      · simp only [Option.some.injEq] at h
        exact absurd h hne

/-- A forced merge of a list of two or more keeps the volume and frees one place (R30). -/
theorem forcedMerge_spec (l : List Stratum) (h : 2 ≤ l.length) :
    volumeOf (forcedMerge l) = volumeOf l ∧ (forcedMerge l).length + 1 = l.length := by
  match l, h with
  | a :: b :: rest, _ =>
    unfold forcedMerge
    have := smallestRise_isSome a b rest
    split
    · next r hr => exact mergeAtRise_spec _ r hr
    · next hn => rw [hn] at this; cases this

/-- Everything making room leaves: the volume, the room asked for, the flag exactly when a merge was forced, and the list
itself where there was room (R30, R31). -/
theorem makeRoomUpTo_spec (most : Nat) (hm : 1 ≤ most) : ∀ (n : Nat) (l : List Stratum), l.length ≤ most + n →
    volumeOf (makeRoomUpTo most n l).1 = volumeOf l ∧ (makeRoomUpTo most n l).1.length ≤ most
      ∧ ((makeRoomUpTo most n l).2 = true ↔ most < l.length)
      ∧ (l.length ≤ most → (makeRoomUpTo most n l).1 = l)
  | 0, l, h => by
    simp only [makeRoomUpTo]
    refine ⟨trivial, by omega, ?_, fun _ => trivial⟩
    simp; omega
  | n + 1, l, h => by
    unfold makeRoomUpTo
    split
    · next hl =>
      have hf := forcedMerge_spec l (by omega)
      have ih := makeRoomUpTo_spec most hm n (forcedMerge l) (by omega)
      refine ⟨by rw [ih.1, hf.1], ih.2.1, by simp [hl], by omega⟩
    · next hl => simp; omega

/-- Making room for one or two records (R30, R31). -/
theorem makeRoom_spec (n : Nat) (hn : n ≤ 2) (l : List Stratum) :
    volumeOf (makeRoom n l).1 = volumeOf l ∧ (makeRoom n l).1.length ≤ 32 - n
      ∧ ((makeRoom n l).2 = true ↔ 32 - n < l.length) ∧ (l.length ≤ 32 - n → (makeRoom n l).1 = l) :=
  makeRoomUpTo_spec (32 - n) (by omega) l.length l (by omega)

/-! ### Inserting and changing one record -/

@[simp] theorem insertByTemp_volume (new : Stratum) : ∀ l : List Stratum,
    volumeOf (insertByTemp new l) = new.volume + volumeOf l
  | [] => by simp [insertByTemp]
  | s :: rest => by
    unfold insertByTemp
    split
    · simp
    · simp [insertByTemp_volume new rest]; omega

@[simp] theorem insertByTemp_length (new : Stratum) : ∀ l : List Stratum,
    (insertByTemp new l).length = l.length + 1
  | [] => rfl
  | s :: rest => by
    unfold insertByTemp
    split
    · rfl
    · simp [insertByTemp_length new rest]

/-- Changing one record by a function that keeps volumes keeps the volume of the list. -/
theorem changeAt_volume (f : Stratum → Stratum) (hf : ∀ x, (f x).volume = x.volume) : ∀ (h : Nat) (l : List Stratum),
    volumeOf (changeAt f h l) = volumeOf l
  | _, [] => rfl
  | _, [s] => by simp [changeAt, hf]
  | h, s :: t :: rest => by
    unfold changeAt
    split
    · simp [hf]
    · simp only [volumeOf_cons, changeAt_volume f hf (h - s.volume) (t :: rest)]

@[simp] theorem changeAt_length (f : Stratum → Stratum) : ∀ (h : Nat) (l : List Stratum),
    (changeAt f h l).length = l.length
  | _, [] => rfl
  | _, [s] => rfl
  | h, s :: t :: rest => by
    unfold changeAt
    split
    · rfl
    · simp [changeAt_length f (h - s.volume) (t :: rest)]

/-- Changing every record by a function that keeps volumes keeps the volume of the list. -/
theorem map_volume (f : Stratum → Stratum) (hf : ∀ x, (f x).volume = x.volume) (l : List Stratum) :
    volumeOf (l.map f) = volumeOf l := by
  induction l with
  | nil => rfl
  | cons s rest ih => simp [hf, ih]

/-! ### The stratum at a height -/

/-- A height within the bottom stratum (R4). -/
theorem stratumAt_bottom {h : Nat} {s : Stratum} (l : List Stratum) (hs : h < s.volume) : stratumAt h (s :: l) = some s := by
  cases l with
  | nil => rfl
  | cons t rest => simp [stratumAt, hs]

/-- A height above the bottom stratum is looked up in the others (R4). -/
theorem stratumAt_above {h : Nat} {s : Stratum} {l : List Stratum} (hs : s.volume ≤ h) (hl : l ≠ []) :
    stratumAt h (s :: l) = stratumAt (h - s.volume) l := by
  cases l with
  | nil => exact absurd rfl hl
  | cons t rest => simp [stratumAt, Nat.not_lt.mpr hs]

end Sys2Proof.Machine
end

