-- ==== Sys2Proof/Tests/Slice0.lean ====
section
/-!
SUPPORT. The author's own tests. Expected figures come from the spec: its check values (R162, R163), its worked figures (1.7,
3.7, 5.10, 9.10, 9.11) and its worked exchange (10.7). Then, for each statement of Obligations.lean that has hypotheses, a
named witness that they can all be met together, clause by clause.
-/

-- One theorem after another: a hundred kernel evaluations at once would each take a thread and its stack.
set_option Elab.async false

namespace Sys2Proof.Tests

open Sys2Proof Sys2Proof.Machine

/-! ### The worked store -/

/-- A field of the state a command leaves; none where it leaves no next state. -/
def after {α : Type} (r : Result) (f : State → α) : Option α :=
  match r with
  | .next s => some (f s)
  | .fault _ => none
  | .refused _ => none

/-- The configuration of 1.7: its own values, and the defaults of R178. -/
def cfg : StoreConfig :=
  { volume := 3000, initialTemp := 1500, tMax := 8000, hysteresis := 300, mergeBand := 50, minStratum := 20, mains := 1200
    ambient := 2000, lossFactor := 94, lossInterval := 10, tUse := 4500, tComfort := 5000, comfortTarget := 1200
    minHotVolume := 400, productive := 20, solarIdle := 600, minRun := 300, tHyg := 6000, requiredDwell := 30
    hygieneInterval := 10080, hygieneLimit := 240, hygieneFloor := 1500, hygienePort := 5, auxFloor := 1500
    scanInterval := 60 }

/-- Strata of age and dwell 0. -/
def strata (l : List (Nat × Nat)) : List Stratum := l.map fun x => ⟨x.1, x.2, 0, 0⟩

def listA : List Stratum := strata [(1200, 1500), (800, 3000), (1000, 5200)]
def listB : List Stratum := strata [(1057, 1500), (800, 3000), (143, 4500), (1000, 5200)]
def listC : List Stratum := strata [(1057, 1500), (800, 3000), (143, 4500), (1000, 6060)]
def listD : List Stratum := strata [(400, 1200), (1057, 1500), (800, 3000), (143, 4500), (600, 6060)]

def storeOf (l : List Stratum) : Store :=
  { cfg := cfg, holiday := false, strata := l, mains := 1200, ambient := 2000, lossTimer := 600 * 32768
    minuteTimer := 60 * 32768 }

def portOf (source : Source) (entry : Entry) (cap liveness : Nat) : Port :=
  { config := some { source := source, entry := entry, supplyCap := cap, liveness := liveness }
    absorbed := 0, ungranted := 0, lastEnd := none }

/-- The port table of 5.10. -/
def ports : PerPort Port :=
  { p1 := portOf (.mustTake .solar) (.lance 600) 9000 120
    p2 := portOf (.mustTake .stove) (.coil 0 900) 9500 300
    p3 := portOf (.auxiliary .heatPump 3) (.coil 1500 2400) 5500 120
    p4 := { portOf (.auxiliary .boiler 2) (.coil 2000 3000) 7500 120 with
      lastEnd := some { handle := 0x04, reason := .released } }
    p5 := portOf (.auxiliary .immersion 4) (.element 2300) 7500 60
    p6 := .initial }

/-- A probe configured as probe 4 of 9.10. -/
def probeConfig : ProbeConfig :=
  { height := 2800, enabled := true, tolerance := 100, lockCount := 4, shift := 2, bound := 500, hold := 30
    threshold := 9000, alarmMode := .follow }

def probeOf (c : ProbeConfig) (state : ProbeState) : Probe := { Probe.initial with config := some c, state := state }

/-- The worked store running on a list, the link IDLE, no grant unretired and no probe configured. -/
def run (l : List Stratum) : State :=
  { State.reset with
    store := some (storeOf l)
    arbiter := { Arbiter.initial with ports := ports }
    link := { State.reset.link with framing := .idle, stall := none } }

def grantOf (handle : Byte) (cls : GrantClass) : Grant :=
  { handle := handle, cls := cls, delivered := 0, declaredSupply := 7000, liveness := 120 * 32768 }

def normal (budget : Nat) : GrantClass :=
  .normal { budget := budget, minRun := some (300 * 32768), suspendPending := false, suspended := false }

/-- A state with a grant at a port. -/
def withGrant (s : State) (p : PortId) (g : Grant) : State :=
  { s with arbiter := { s.arbiter with grants := s.arbiter.grants.set p (some g) } }

/-- A state with a probe in place. -/
def withProbe (s : State) (n : ProbeId) (p : Probe) : State := { s with probes := s.probes.set n p }

/-- A long body with its checksum. -/
def good (p : List Byte) : LongBody := .full p (crc16 p)

def ascii : List Byte := [0x31, 0x32, 0x33, 0x34, 0x35, 0x36, 0x37, 0x38, 0x39]

/-! ### Well-formedness refuses -/

theorem test_wf_count_zero : (LongBody.full [] 0).wf = false := by decide
theorem test_wf_count_above : (LongBody.full (List.replicate 1025 0) 0).wf = false := by decide +kernel
theorem test_wf_count_largest : (LongBody.full (List.replicate 1024 0) 0).wf = true := by decide +kernel
theorem test_wf_marked_in_range : (LongBody.marked 1024).wf = false := by decide
theorem test_wf_short_kind : (⟨16, 0, .short 0 0⟩ : Message).wf = false := by decide
theorem test_wf_long_kind : (⟨15, 0, .long (good [0])⟩ : Message).wf = false := by decide +kernel
theorem test_wf_relock : (Instr.relock 0 1 6).wf = false := by decide
theorem test_wf_clear_min_max : (Instr.clearMinMax 0 1 5).wf = false := by decide
theorem test_wf_clear_alarm : (Instr.clearAlarm 0 1 3).wf = false := by decide
theorem test_wf_deposit : (Instr.deposit 1 (.full [] 0)).wf = false := by decide
theorem test_wf_read_strata : (Instr.readStrata 0 (good [1])).wf = false := by decide +kernel
theorem test_wf_read_ports : (Instr.readPorts 0 (good [1, 0])).wf = false := by decide +kernel
theorem test_wf_read_summary : (Instr.readSummary 0 (good [5])).wf = false := by decide +kernel

/-! ### Checks and layouts (R162, R163, R175, 10.7) -/

theorem test_crc8 : crc8 ascii = 0xF4 := by decide +kernel
theorem test_crc16 : crc16 ascii = 0x29B1 := by decide +kernel
theorem test_keepalive_header : header (ident 6 4) 0x14 0x00 = [0x34, 0x14, 0x00, 0x49] := by decide +kernel
theorem test_keepalive_answer :
    after (exec (.keepalive 4 0x14 0) (withGrant (run listB) .p4 (grantOf 0x14 (normal 216)))) (·.link.txd)
      = some [0x34, 0x00, 0x01, 0x4D] := by decide +kernel
theorem test_identify :
    after (exec (.identify 3 9 9) State.reset) (fun s => s.link.txd.take 16)
      = some [0x03, 12, 0, crc8 [3, 12, 0], 0, 0, 0x3A, 0x78, 0x02, 1, 32, 6, 8, 4, 2, 0] := by decide +kernel
theorem test_unassigned_kind :
    after (exec (.unassignedKind 0 0 (good [7])) State.reset) (·.link.txd) = some (shortAnswer 22 0 6 0) := by
  decide +kernel
theorem test_rx_keepalive :
    after (runAll ([0x34, 0x14, 0x00, 0x49].map Instr.rxByte) (run listB)) (·.link.queue)
      = some [⟨6, 4, .short 0x14 0x00⟩] := by decide +kernel
theorem test_rx_bad_header :
    after (runAll ([0x34, 0x14, 0x00, 0x48].map Instr.rxByte) (run listB))
      (fun s => (s.link.framing, s.notices.flags)) = some (.hunt, 0x4000) := by decide +kernel
theorem test_framing_fault :
    after (exec .rxFramingFault (run listB)) (fun s => (s.link.framing, s.link.stall)) = some (.hunt, some 656) := by
  decide +kernel
theorem test_stall : after (exec .stallExpiry State.reset) (fun s => (s.link.framing, s.notices.flags)) = some (.idle, 0) := by
  decide +kernel

/-! ### The list and its summaries (1.7, 2.7, 3.7) -/

theorem test_lance_deposit : depositList cfg (.lance 600) 430000 4500 listA = (listB, false) := by decide +kernel
theorem test_lance_absorbed : absorbedWh 500 listA listB = 499 := by decide +kernel
theorem test_lance_two_strata :
    (depositList cfg (.lance 600) 1032000 3300 listD).1
      = strata [(966, 1500), (800, 3000), (491, 3300), (143, 4500), (600, 6060)] := by decide +kernel
theorem test_coil_deposit : depositList cfg (.coil 2000 3000) 860000 7000 listB = (listC, false) := by decide +kernel
theorem test_coil_bottom :
    (depositList cfg (.coil 0 900) 344000 4000 listB).1 = strata [(1057, 1825), (800, 3000), (143, 4500), (1000, 5200)] := by
  decide +kernel
theorem test_coil_too_cool : depositList cfg (.coil 2000 3000) 129000 5000 listB = (listB, false) := by decide +kernel
theorem test_element_deposit :
    (depositList cfg (.element 2300) 258000 7500 listD).1 = strata [(400, 1200), (1057, 1500), (800, 3000), (743, 6107)] := by
  decide +kernel
theorem test_draw : (drawList cfg 1200 400 listC).strata = listD := by decide +kernel
theorem test_draw_delivered :
    ((drawList cfg 1200 400 listC).mean, (drawList cfg 1200 400 listC).energy) = (6060, 2260) := by decide +kernel
theorem test_loss_step :
    lossStep cfg 2000 listC = strata [(1057, 1501), (800, 2999), (143, 4496), (1000, 6054)] := by decide +kernel
theorem test_correction :
    correctList cfg { height := 1900, amount := 680 } listB = strata [(1057, 1500), (800, 3000), (1143, 5197)] := by
  decide +kernel
theorem test_model_temperature :
    [0, 1056, 1057, 1999, 2000, 3000, 4000].map (tempAt · listB) = [1500, 1500, 3000, 4500, 5200, 5200, 5200] := by
  decide +kernel
theorem test_summaries :
    ((storeOf listB).headroom, (storeOf listB).hotVolume, (storeOf listB).comfortNeed, (storeOf listB).hygieneNeed)
      = (16477, 1143, 216, 4197) := by decide +kernel

/-! ### One step of each block (3.7, 5.10, 9.10, 9.11) -/

theorem test_configure_store :
    after (exec (.configureStore 0 (good (List.replicate 49 0))) State.reset) (·.link.txd)
      = some (shortAnswer 16 0 8 0) := by decide +kernel
theorem test_configure_port_protected :
    after (exec (.configurePort 0 (good [3, 3, 1, 0xE8, 3, 0x98, 8, 0, 0, 0, 0, 0x7C, 0x15, 3, 0, 0])) (run listB))
      (·.link.txd) = some (shortAnswer 17 0 1 9) := by decide +kernel
theorem test_configure_port :
    after (exec (.configurePort 0 (good [3, 3, 1, 0xDC, 5, 0x60, 9, 0, 0, 0, 0, 0x7C, 0x15, 3, 0, 0])) (run listB))
      (fun s => (s.port .p3).config) = some (ports.p3.config) := by decide +kernel
theorem test_request_charge :
    after (exec (.requestCharge 4 (good [1, 0xB8, 0x0B, 0x58, 0x1B])) (run listB))
      (fun s => (s.grant .p4).map fun g => (g.handle, g.cls)) = some (some (0x14, normal 216)) := by decide +kernel
theorem test_deposit_active :
    after (exec (.deposit 4 (good [0x14, 150, 0, 0x58, 0x1B])) (withGrant (run listB) .p4 (grantOf 0x14 (normal 216))))
      (fun s => (s.store.map (·.strata), s.link.txd.drop 4 |>.take 9))
      = some (some (strata [(1057, 1500), (800, 3000), (143, 4500), (1000, 5329)]), [0, 0, 1, 150, 0, 0, 0, 66, 0]) := by
  decide +kernel
theorem test_revoke :
    after (exec (.revoke 0 4 0) (withGrant (run listB) .p4 (grantOf 0x14 (normal 216))))
      (fun s => (s.grant .p4, (s.port .p4).lastEnd, s.notices.flags))
      = some (none, some { handle := 0x14, reason := .revoked }, 0x0001) := by decide +kernel
theorem test_reading_corrects :
    after (exec (.probeReply true 4 5780)
        { withProbe (run listC) .n4 (probeOf probeConfig .seeking) with
          scanner := { conversion := some { probe := .n4, timeout := 9, reconfigured := false }
                       rescanPending := false, interval := some 9 } })
      (fun s => (s.corrections, (s.probes.get .n4).cumulative)) = some ([{ height := 2800, amount := -70 }], -70) := by
  decide +kernel
theorem test_reading_locks_out :
    after (exec (.probeReply true 1 500)
        { withProbe (run (strata [(1057, 1000), (800, 3000), (143, 4500), (1000, 6060)])) .n1
            { probeOf { probeConfig with height := 300 } .seeking with cumulative := -500, limited := 2 } with
          scanner := { conversion := some { probe := .n1, timeout := 9, reconfigured := false }
                       rescanPending := false, interval := some 9 } })
      (fun s => ((s.probes.get .n1).state, (s.probes.get .n1).holdTimer, s.notices.flags))
      = some (.lockout, some (30 * 60 * 32768), 0x0800) := by decide +kernel
theorem test_third_clip_of_zero_sends_nothing :
    after (exec (.probeReply true 1 500)
        { withProbe (run (strata [(1057, 1000), (800, 3000), (143, 4500), (1000, 6060)])) .n1
            { probeOf { probeConfig with height := 300 } .seeking with cumulative := -500, limited := 2 } with
          scanner := { conversion := some { probe := .n1, timeout := 9, reconfigured := false }
                       rescanPending := false, interval := some 9 }
          corrections := [{ height := 2800, amount := -70 }] })
      (fun s => (s.corrections, (s.probes.get .n1).state)) = some ([{ height := 2800, amount := -70 }], .lockout) := by
  decide +kernel
theorem test_notices_clear :
    after (exec (.notices 0 0x01 0x00) ({ run listB with notices := { flags := 0x0003, mask := 1, attnLow := true } }))
      (fun s => (s.notices.flags, s.notices.attnLow)) = some (0x0002, false) := by decide +kernel
theorem test_idle_tick :
    after (step State.reset) (·.link.stall) = some (some 655) := by decide +kernel

/-! ### Witnesses: the step, messages, resets and reception -/

/-- A message is taken from an empty receive queue. -/
theorem taking {s : State} (m : Message)
    (h : s.pins.resetLow = false ∧ s.link.resetPending = none ∧ s.link.queue = []) : s.Taking m s :=
  ⟨h.1, h.2.1, .inl ⟨h.2.2, rfl⟩⟩

/-- A state with a message at the front of its receive queue. -/
def queued (s : State) (m : Message) (rest : List Message) : State := { s with link := { s.link with queue := m :: rest } }

/-- A message is taken from the front of the receive queue. -/
theorem takingFront {s : State} (m : Message) (rest : List Message)
    (h : s.pins.resetLow = false ∧ s.link.resetPending = none) :
    (queued s m rest).Taking m { s with link := { s.link with queue := rest } } :=
  ⟨h.1, h.2, .inr ⟨rest, rfl, rfl⟩⟩

/-- A state under the RESET pin. -/
def held (s : State) : State := { s with pins := { s.pins with resetLow := true } }

/-- A state whose stall timer has run out. -/
def stalled (s : State) : State := { s with link := { s.link with framing := .hunt, stall := some 0 } }

def framing (f : Framing) : State := { run listB with link := { State.reset.link with framing := f, stall := some 656 } }

theorem witness_StepRunsTheFrontCommand :
    ({ run listB with pending := [.powerOn, .stallExpiry] } : State).pending = .powerOn :: [.stallExpiry] := rfl

theorem witness_EmptyQueueRunsDueEventOrTicks :
    ((held (run listB)).pending = [] ∧ (held (run listB)).pins.resetLow = true)
      ∧ ((run listB).pending = [] ∧ (run listB).pins.resetLow = false ∧ (run listB).due = [])
      ∧ (stalled (run listB)).due = [.stallExpiry]
      ∧ ({ stalled (run listB) with corrections := [{ height := 0, amount := 1 }] } : State).due
          = .stallExpiry :: .probeCorrection :: [] := by decide +kernel

theorem witness_CrystalPeriodCountsTimersAlone :
    (run listB).grant .p6 = none
      ∧ (withGrant (run listB) .p1 (grantOf 1 (.mustTake true))).grant .p1 = some (grantOf 1 (.mustTake true))
      ∧ (withGrant (run listB) .p5 (grantOf 5 .hygiene)).grant .p5 = some (grantOf 5 .hygiene)
      ∧ (withGrant (run listB) .p4 (grantOf 4 (normal 1))).grant .p4 = some (grantOf 4 (normal 1)) := by decide +kernel

theorem witness_MessagesAndCommandsAgree :
    (⟨15, 7, .short 0 255⟩ : Message).wf = true ∧ (⟨31, 0, .long (.marked 0)⟩ : Message).wf = true
      ∧ ((Instr.deposit 6 (good [0])).wf = true ∧ (Instr.deposit 6 (good [0])).message = some ⟨20, 6, .long (good [0])⟩)
      ∧ ((2 : Byte).getLsbD 0 = false ∧ (2 : Byte).getLsbD 1 = true)
      ∧ ((4 : Byte).getLsbD 0 = false ∧ (4 : Byte).getLsbD 1 = false) := by decide +kernel

theorem witness_ReceivedBytesBecomeTheMessage :
    ((⟨20, 1, .long (.full [1, 2, 3, 4, 5] 0)⟩ : Message).wf = true ∧ (⟨16, 0, .long (.marked 1025)⟩ : Message).wf = true
      ∧ (⟨0, 7, .short 0 0⟩ : Message).wf = true)
      ∧ (queued (run listB) ⟨0, 0, .short 0 0⟩ []).pins.resetLow = false
      ∧ (queued (run listB) ⟨0, 0, .short 0 0⟩ []).link.framing = .idle
      ∧ (queued (run listB) ⟨0, 0, .short 0 0⟩ []).link.queue.length < 2 := by decide +kernel

theorem witness_PowerOnAndResetPinResetEveryBlock :
    ((held (run listB)).pins.resetLow = true ∧ Instr.stallExpiry ≠ .powerOn ∧ Instr.stallExpiry ≠ .resetPinLow
      ∧ Instr.stallExpiry ≠ .resetPinRelease ∧ ∀ r1 r0, Instr.stallExpiry ≠ .rateStrapChange r1 r0)
      ∧ (run listB).pins.resetLow = false := by decide +kernel

theorem witness_BitRateIsReadAtPowerOnAndReleaseAlone :
    ((∃ t, exec .resetPinLow (run listB) = .next t) ∧ Instr.resetPinLow ≠ .powerOn
        ∧ Instr.resetPinLow ≠ .resetPinRelease)
      ∧ (held (run listB)).pins.resetLow = true ∧ (run listB).pins.resetLow = false :=
  ⟨⟨⟨_, rfl⟩, by decide, by decide⟩, by decide, by decide⟩

theorem witness_ResetRequestAndFullReset :
    ((run listB).Taking ⟨14, 0, .short 0 9⟩ (run listB) ∧ (0 : Byte) = 0)
      ∧ ((queued (run listB) ⟨14, 0, .short 1 0⟩ []).Taking ⟨14, 0, .short 1 0⟩ (run listB) ∧ (1 : Byte) = 1)
      ∧ ((run listB).Taking ⟨14, 0, .short 2 0⟩ (run listB) ∧ 1 < (2 : Byte).toNat)
      ∧ (({ run listB with link := { (run listB).link with resetPending := some .full } } : State).pins.resetLow = false
        ∧ ({ run listB with link := { (run listB).link with resetPending := some .full } } : State).link.resetPending
          = some .full)
      ∧ ((run listB).link.resetPending ≠ some .full ∧ (run listB).link.resetPending ≠ some .grants) :=
  ⟨⟨taking _ (by decide), rfl⟩, ⟨takingFront _ _ (by decide), rfl⟩, ⟨taking _ (by decide), by decide⟩, by decide, by decide⟩

/-- A hygiene run in progress on port 5, a SUSPENDED boiler on port 4 and a must-take grant under solar-active, with a RESET
of scope GRANTS waiting. -/
def busy : State :=
  { withGrant (withGrant (withGrant (run listB) .p1 (grantOf 1 (.mustTake false))) .p5 (grantOf 5 .hygiene)) .p4
      (grantOf 0x14 (.normal { budget := 216, minRun := none, suspendPending := false, suspended := true })) with
    hygiene := { state := .inProgress, limit := some 5 } }

def busySolar : State :=
  { busy with arbiter := { busy.arbiter with solarActive := true, solarIdle := some 5, resume := [.p4] } }

theorem busy_onlyHygiene {p : PortId} {g : Grant} (h : busy.grant p = some g) (hc : g.cls = .hygiene) : p = .p5 := by
  cases p <;> cases h <;> first | rfl | cases hc

theorem busy_hygiene : busy.HygieneSound := by
  refine ⟨by constructor <;> intro _ <;> first | exact ⟨.p5, _, rfl, rfl⟩ | rfl, ?_, by decide⟩
  exact fun p q g h hp hq hg hh => (busy_onlyHygiene hp hg).trans (busy_onlyHygiene hq hh).symm

theorem witness_GrantsResetEndsEveryGrant :
    ∃ s : State, s.pins.resetLow = false ∧ s.link.resetPending = some .grants ∧ s.corrections = [] ∧ s.HygieneSound
      ∧ (∀ p ∈ s.arbiter.resume, s.grant p ≠ none)
      ∧ (s.grant .p6 = none ∧ s.grant .p5 = some (grantOf 5 .hygiene) ∧ s.store = some (storeOf listB)
        ∧ s.arbiter.overheat = false) :=
  ⟨{ busySolar with link := { busySolar.link with resetPending := some .grants } }, rfl, rfl, rfl, busy_hygiene,
    by decide, rfl, rfl, rfl, rfl⟩

/-- With no grant and no run, the Hygiene Monitor is sound. -/
theorem noGrant_hygiene {s : State} (h : ∀ p, s.grant p = none)
    (hs : s.hygiene.state ≠ .inProgress ∧ s.hygiene.limit = none) : s.HygieneSound := by
  refine ⟨⟨fun e => absurd e hs.1, fun ⟨p, g, hp, _⟩ => ?_⟩, fun p _ _ _ hp => ?_, ⟨fun e => absurd hs.2 e, fun e => absurd e hs.1⟩⟩
  · rw [h p] at hp; cases hp
  · rw [h p] at hp; cases hp

theorem witness_GrantsResetEndsEveryGrant_other :
    ∃ s : State, s.pins.resetLow = false ∧ s.link.resetPending = some .grants ∧ s.corrections = [] ∧ s.HygieneSound
      ∧ (∀ p ∈ s.arbiter.resume, s.grant p ≠ none)
      ∧ ((s.store = none ∨ s.store = some (storeOf listB)) ∧ s.arbiter.overheat = true) :=
  ⟨{ run listB with
      arbiter := { (run listB).arbiter with overheat := true }
      link := { (run listB).link with resetPending := some .grants } }, rfl, rfl, rfl,
    noGrant_hygiene (fun p => by cases p <;> rfl) (by decide), by decide, .inr rfl, rfl⟩

theorem witness_FramingStatesFollowTheTable :
    (run listB).pins.resetLow = false ∧ (run listB).link.framing = .idle
      ∧ ((framing (.header [1, 2])).link.framing = .header [1, 2] ∧ [1, 2].length < 3)
      ∧ ((framing (.payload 20 1 5 [0, 0, 0, 0, 0])).link.framing = .payload 20 1 5 [0, 0, 0, 0, 0]
        ∧ [0, 0, 0, 0, 0].length < 5 + 1)
      ∧ ((framing .hunt).link.framing = .hunt ∧ (framing .hunt).link.stall ≠ none)
      ∧ (run listB).link.framing ≠ .hunt ∧ (run listB).link.stall = none
      ∧ ((framing (.header [1])).link.stall ≠ none ∧ (framing (.header [1])).link.framing ≠ .hunt
        ∧ (framing (.header [1])).link.framing ≠ .idle) := by decide +kernel

theorem witness_LastByteMakesTheMessage :
    ((framing (.header [0xA0, 0, 0])).link.framing = .header [0xA0, 0, 0] ∧ (0 : Byte) ≠ crc8 [0xA0, 0, 0])
      ∧ ((framing (.header [0x7F, 0, 0])).link.framing = .header [0x7F, 0, 0] ∧ (0x7F : Byte).toNat < 128)
      ∧ (128 ≤ (0x80 : Byte).toNat ∧ (0 : Byte).toNat + 256 * (0 : Byte).toNat = 0)
      ∧ (128 ≤ (0xFF : Byte).toNat ∧ 1024 < (1 : Byte).toNat + 256 * (4 : Byte).toNat)
      ∧ (1 ≤ (1 : Byte).toNat + 256 * (0 : Byte).toNat ∧ (0 : Byte).toNat + 256 * (4 : Byte).toNat ≤ 1024)
      ∧ (framing (.payload 20 1 2 ([7, 8] ++ [9]))).link.framing = .payload 20 1 [7, 8].length ([7, 8] ++ [9])
      ∧ (queued (run listB) ⟨0, 0, .short 0 0⟩ []).link.queue.length < 2
      ∧ 2 ≤ (queued (run listB) ⟨0, 0, .short 0 0⟩ [⟨0, 0, .short 0 0⟩]).link.queue.length := by decide +kernel

theorem witness_WaitingRequestJoinsTheQueue :
    ((Instr.scan 0 0 0).message = some ⟨9, 0, .short 0 0⟩
        ∧ (queued (run listB) ⟨0, 0, .short 0 0⟩ []).Waiting ⟨9, 0, .short 0 0⟩
        ∧ (queued (run listB) ⟨0, 0, .short 0 0⟩ []).link.queue.length < 2)
      ∧ ((queued (run listB) ⟨0, 0, .short 0 0⟩ [⟨0, 0, .short 0 0⟩]).Waiting ⟨9, 0, .short 0 0⟩
        ∧ 2 ≤ (queued (run listB) ⟨0, 0, .short 0 0⟩ [⟨0, 0, .short 0 0⟩]).link.queue.length)
      ∧ ({ run listB with link := { (run listB).link with resetPending := some .full } } : State).Waiting
          ⟨9, 0, .short 0 0⟩ :=
  ⟨⟨rfl, ⟨rfl, .inr ⟨_, _, rfl, by decide⟩⟩, by decide⟩, ⟨⟨rfl, .inr ⟨_, _, rfl, by decide⟩⟩, by decide⟩,
    rfl, .inl (by decide)⟩

theorem witness_LinkChecksAnswerInOrder :
    (∀ m, (run listB).Taking m (run listB))
      ∧ (Instr.deposit 7 (.marked 0)).message = some ⟨20, 7, .long (.marked 0)⟩
      ∧ ((Instr.deposit 1 (.full [1] 0)).message = some ⟨20, 1, .long (.full [1] 0)⟩ ∧ (0 : BitVec 16) ≠ crc16 [1])
      ∧ ((Instr.unassignedKind 0 0 (good [1])).message = some ⟨22, 0, .long (.full [1] (crc16 [1]))⟩
        ∧ 22 ≤ (22 : BitVec 5).toNat)
      ∧ ((Instr.identify 7 0 0).message = some ⟨0, 7, .short 0 0⟩ ∧ ¬ChannelAllowed (0 : BitVec 5).toNat 7)
      ∧ ((Instr.deposit 0 (good [1])).message = some ⟨20, 0, .long (.full [1] (crc16 [1]))⟩
        ∧ ¬ChannelAllowed (20 : BitVec 5).toNat 0)
      ∧ ((Instr.deposit 6 (good [1])).message = some ⟨20, 6, .long (.full [1] (crc16 [1]))⟩
        ∧ payloadLength (20 : BitVec 5).toNat = some 5 ∧ ChannelAllowed (20 : BitVec 5).toNat 6 ∧ [(1 : Byte)].length ≠ 5)
      ∧ ((Instr.readStrata 0 (good [5])).message = some ⟨21, 0, .long (.full [5] (crc16 [5]))⟩ ∧ 4 < (5 : Byte).toNat) := by
  refine ⟨fun m => taking m (by decide), ?_⟩
  simp only [ChannelAllowed]
  decide +kernel

theorem witness_UnconfiguredRequestsChangeNothing :
    ∀ c ∈ [Instr.draw 0 1 0, .profile 0 0 0, .readStrata 0 (good [0]), .deposit 1 (good [0, 0, 0, 0, 0]),
        .requestCharge 6 (good [0, 0, 0, 0, 0]), .setMode 0 1 0],
      ∃ m, c.message = some m ∧ State.reset.Taking m State.reset ∧ m.failedCheck = none ∧ State.reset.store = none
        ∧ m.kind.toNat ∉ [0, 12, 13, 14, 16] := by
  intro c hc
  simp only [List.mem_cons, List.not_mem_nil, or_false] at hc
  rcases hc with rfl | rfl | rfl | rfl | rfl | rfl <;>
    exact ⟨_, rfl, taking _ (by decide), by decide +kernel, rfl, by decide⟩

/-! ### Witnesses: the Store Model -/

theorem witness_IdentifyAnswersInEveryMode :
    (State.reset.Taking ⟨0, 6, .short 0 0⟩ State.reset ∧ (6 : Channel) ≠ 7)
      ∧ (queued (run listB) ⟨0, 0, .short 1 2⟩ []).Taking ⟨0, 0, .short 1 2⟩ (run listB) :=
  ⟨⟨taking _ (by decide), by decide⟩, takingFront _ _ (by decide)⟩

theorem witness_HeldFiguresAreSet :
    (run listB).store = some (storeOf listB) ∧ ∀ m, (run listB).Taking m (run listB) :=
  ⟨rfl, fun _ => taking _ (by decide)⟩

/-- The worked store in HOLIDAY. -/
def holiday (l : List Stratum) : State := { run l with store := some { storeOf l with holiday := true } }

theorem noNormal {s : State} (h : ∀ p, s.grant p = none) : ∀ p g n, s.grant p = some g → g.cls ≠ .normal n := by
  intro p g n hp; rw [h p] at hp; cases hp

theorem witness_SetModeActsOnTheArbiter :
    ((run listB).Taking ⟨1, 0, .short 3 0⟩ (run listB) ∧ (run listB).store = some (storeOf listB) ∧ (3 : Byte) ≠ 1
        ∧ (3 : Byte) ≠ 2)
      ∧ ((storeOf listB).holiday = false ∧ (holiday listB).Taking ⟨1, 0, .short 2 0⟩ (holiday listB)
        ∧ (holiday listB).store = some { storeOf listB with holiday := true })
      ∧ ((withGrant (run listB) .p4 (grantOf 0x14 (normal 216))).Taking ⟨1, 0, .short 2 0⟩
          (withGrant (run listB) .p4 (grantOf 0x14 (normal 216)))
        ∧ (withGrant (run listB) .p4 (grantOf 0x14 (normal 216))).grant .p4 = some (grantOf 0x14 (normal 216)))
      ∧ (∀ p g n, (run listB).grant p = some g → g.cls ≠ .normal n)
      ∧ ((holiday listB).arbiter.comfortEmergency = false ∧ (holiday listB).arbiter.resume = []
        ∧ (∀ p g n, (holiday listB).grant p = some g → g.cls ≠ .normal n) ∧ cfg.minHotVolume ≤ (storeOf listB).hotVolume)
      ∧ (storeOf (strata [(2601, 1500), (399, 4500)])).hotVolume < cfg.minHotVolume :=
  ⟨⟨taking _ (by decide), rfl, by decide, by decide⟩, ⟨rfl, taking _ (by decide), rfl⟩, ⟨taking _ (by decide), rfl⟩,
    noNormal fun p => by cases p <;> rfl, ⟨rfl, rfl, noNormal fun p => by cases p <;> rfl, by decide +kernel⟩,
    by decide +kernel⟩

theorem witness_DrawTakesTheTopAndFillsFromMains :
    ((run listB).Taking ⟨5, 0, .short 0 0⟩ (run listB) ∧ (run listB).store = some (storeOf listB)
        ∧ (0 : Byte).toNat + 256 * (0 : Byte).toNat = 0)
      ∧ 1 ≤ (1 : Byte).toNat + 256 * (0 : Byte).toNat
      ∧ ((storeOf listB).cfg.volume ≤ (0xB8 : Byte).toNat + 256 * (0x0B : Byte).toNat
        ∧ volumeOf (storeOf listB).strata = (storeOf listB).cfg.volume ∧ 1 ≤ (storeOf listB).cfg.volume) :=
  ⟨⟨taking _ (by decide), rfl, by decide⟩, by decide, by decide +kernel⟩

theorem witness_LossStepMovesTowardAmbient :
    (∀ x ∈ [(⟨1, 11000, 0, 0⟩ : Stratum), ⟨1, 2000, 0, 0⟩, ⟨1, 0, 0, 0⟩], x.temp ≤ 11000) ∧ 2000 ≤ 11000 ∧ 2000 ≤ 2000
      ∧ 2000 < (⟨1, 11000, 0, 0⟩ : Stratum).temp ∧ (⟨1, 0, 0, 0⟩ : Stratum).temp < 2000
      ∧ (⟨1, 2000, 0, 0⟩ : Stratum).temp = 2000 := by decide

theorem witness_StoreTimersRunTheirOperations :
    (run listB).pins.resetLow = false ∧ (run listB).store = some (storeOf listB) ∧ State.reset.store = none := by
  decide +kernel

/-- Probe 4 of 9.10, SEEKING with a reading. -/
def seeking (r : Nat) : Probe := { probeOf probeConfig .seeking with last := some r }

theorem witness_ReseedRebuildsFromUsableProbes :
    ((run listB).Taking ⟨11, 0, .short 0 0⟩ (run listB) ∧ (run listB).store = some (storeOf listB)
        ∧ (run listB).usableReadings = [])
      ∧ ((withProbe (run listB) .n4 (seeking 5780)).Taking ⟨11, 0, .short 0 0⟩ (withProbe (run listB) .n4 (seeking 5780))
        ∧ (withProbe (run listB) .n4 (seeking 5780)).usableReadings = [(2800, 5780)])
      ∧ ((seeking 5780).config = some probeConfig ∧ (seeking 5780).last ≠ none ∧ (seeking 5780).state = .seeking)
      ∧ ([(0, 1500), (3000, 5000)] ≠ ([] : List (Nat × Nat)) ∧ 1 ≤ 3000
        ∧ ([(0, 1500), (3000, 5000)].map Prod.fst).Pairwise (· < ·)
        ∧ ∀ r ∈ [(0, 1500), (3000, 5000)], r.1 ≤ 3000)
      ∧ ((([(0, 1500)] ++ (1, 2000) :: [(3000, 5000)]).map Prod.fst).Pairwise (· < ·)
        ∧ (∀ x ∈ [(0, 1500)] ++ (1, 2000) :: [(3000, 5000)], x.1 ≤ 3000) ∧ (0 + 1) / 2 ≤ 0 ∧ 1499 < (1 + 3000) / 2) :=
  ⟨⟨taking _ (by decide), rfl, by decide +kernel⟩, ⟨taking _ (by decide), by decide +kernel⟩, by decide +kernel, by decide,
    by decide⟩

theorem goodBody {p : List Byte} {n : Nat} (h : p.length = n) : LongBodyGood (good p) p n := ⟨rfl, h⟩

@[simp] theorem le_length : ∀ w n : Nat, (le w n).length = w
  | 0, _ => rfl
  | w + 1, n => by rw [le, List.length_cons, le_length w]

/-- A CONFIGURE_STORE payload: the fields of the worked store, every other tuning field 0xFFFF. -/
def cfgPayload (volume target : Nat) : List Byte :=
  let d := 0xFFFF
  [volume, 1500, d, d, d, d, 1200, d, 94, d, d, d, target, 400, d, d, d, d, d, d, d, 1500].flatMap (le 2) ++ [5]
    ++ [1500, d].flatMap (le 2)

theorem cfgPayload_length (v w : Nat) : (cfgPayload v w).length = 49 := by
  simp only [cfgPayload, List.length_append, List.length_flatMap, le_length, List.length_cons, List.length_nil, List.map_cons,
    List.map_nil, List.sum_cons, List.sum_nil]
  rfl

theorem test_configuration_record : (StoreConfig.sent (cfgPayload 3000 1200)).tuned = cfg := by decide +kernel

theorem cfg_inRange : (StoreConfig.sent (cfgPayload 3000 1200)).tuned.InRange := by
  rw [test_configuration_record]
  unfold StoreConfig.InRange
  decide +kernel

theorem witness_ConfigureStoreStartsTheStore :
    (∀ v w, State.reset.Taking ⟨16, 0, .long (good (cfgPayload v w))⟩ State.reset
        ∧ LongBodyGood (good (cfgPayload v w)) (cfgPayload v w) 49)
      ∧ (((cfgPayload 999 0).getD 0 0).toNat + 256 * ((cfgPayload 999 0).getD 1 0).toNat < 1000
        ∧ 15000 < ((cfgPayload 15001 0).getD 0 0).toNat + 256 * ((cfgPayload 15001 0).getD 1 0).toNat)
      ∧ (((cfgPayload 1000 1001).getD 0 0).toNat + 256 * ((cfgPayload 1000 1001).getD 1 0).toNat = 1000
        ∧ ¬(StoreConfig.sent (cfgPayload 1000 1001)).tuned.comfortTarget ≤ 1000)
      ∧ ((StoreConfig.sent (cfgPayload 3000 1200)).tuned.InRange
        ∧ ∃ q, (withGrant (run listB) .p4 (grantOf 0x14 (normal 216))).grant q ≠ none)
      ∧ (((cfgPayload 3000 1200).getD 0 0).toNat + 256 * ((cfgPayload 3000 1200).getD 1 0).toNat = 3000
        ∧ (StoreConfig.sent (cfgPayload 3000 1200)).tuned.fits = true ∧ ∀ q, State.reset.grant q = none) :=
  ⟨fun v w => ⟨taking _ (by decide), goodBody (cfgPayload_length v w)⟩, by decide +kernel, by decide +kernel,
    ⟨cfg_inRange, .p4, by decide +kernel⟩, by decide +kernel, by decide +kernel, fun q => by cases q <;> rfl⟩

theorem witness_ReadingsChangeNothing :
    (run listB).store = some (storeOf listB) ∧ (∀ m, (run listB).Taking m (run listB)) ∧ 3 < (4 : Byte).toNat
      ∧ (3 : Byte).toNat ≤ 3 ∧ (∀ b : Byte, LongBodyGood (good [b]) [b] 1) :=
  ⟨rfl, fun _ => taking _ (by decide), by decide, by decide, fun _ => goodBody rfl⟩

theorem witness_NormalizationMergesInOrder :
    (Rising 50 (strata [(20, 1000)] ++ [⟨20, 1051, 0, 0⟩]) ∧ (⟨20, 1101, 0, 0⟩ : Stratum).temp ≤ 1051 + 50)
      ∧ (Rising 50 (strata [(19, 1000), (20, 1051), (20, 1102)]) ∧ (⟨19, 1000, 0, 0⟩ : Stratum).volume < 20)
      ∧ (Rising 50 (strata [] ++ ⟨20, 1000, 0, 0⟩ :: ⟨19, 1100, 0, 0⟩ :: ⟨20, 1200, 0, 0⟩ :: [])
        ∧ (∀ x ∈ strata [] ++ [(⟨20, 1000, 0, 0⟩ : Stratum)], 20 ≤ x.volume) ∧ 1200 - 1100 ≤ 1100 - 1000)
      ∧ (Rising 50 (strata [] ++ ⟨20, 1000, 0, 0⟩ :: ⟨19, 1100, 0, 0⟩ :: ⟨20, 1201, 0, 0⟩ :: [])
        ∧ 1100 - 1000 < 1201 - 1100)
      ∧ Rising 50 (strata [] ++ [⟨20, 1000, 0, 0⟩, ⟨19, 1100, 0, 0⟩])
      ∧ NormalList 50 20 listB
      ∧ (11000 ≤ 11000 ∧ ∀ x ∈ listB, 1 ≤ x.volume ∧ 1500 ≤ x.temp ∧ x.temp ≤ 11000) := by
  simp only [strata, List.map, List.nil_append, List.cons_append, Rising, NormalList, listB]
  decide

theorem witness_CutAndRoomKeepTheWater :
    (3000 ≤ volumeOf listB ∧ 0 ≤ volumeOf listB ∧ ∀ x ∈ listB, 1 ≤ x.volume)
      ∧ (2 ≤ 2 ∧ 32 - 2 < (List.replicate 31 (⟨1, 5, 0, 0⟩ : Stratum)).length
        ∧ (List.replicate 30 (⟨1, 5, 0, 0⟩ : Stratum)).length ≤ 32 - 2)
      ∧ (∀ (i : Nat) (x y : Stratum), (strata [] ++ ⟨1, 10, 0, 0⟩ :: ⟨1, 15, 0, 0⟩ :: strata [])[i]? = some x →
          (strata [] ++ ⟨1, 10, 0, 0⟩ :: ⟨1, 15, 0, 0⟩ :: strata [])[i + 1]? = some y →
          ((15 : Nat) : Int) - (10 : Nat) ≤ (y.temp : Int) - x.temp
            ∧ (i < (strata []).length → ((15 : Nat) : Int) - (10 : Nat) < (y.temp : Int) - x.temp)) := by
  refine ⟨by decide +kernel, by decide +kernel, fun i x y hx hy => ?_⟩
  match i with
  | 0 =>
    simp only [strata, List.map, List.nil_append, List.getElem?_cons_zero, List.getElem?_cons_succ, Option.some.injEq] at hx hy
    subst hx hy
    decide
  | n + 1 => simp [strata] at hy

theorem witness_LookupsAndSummariesReadTheList :
    (volumeOf (strata [(1057, 1500)]) ≤ 1057 ∧ 1057 < volumeOf (strata [(1057, 1500)]) + (⟨800, 3000, 0, 0⟩ : Stratum).volume)
      ∧ ((storeOf listB).strata = strata [(1057, 1500)] ++ ⟨800, 3000, 0, 0⟩ :: strata [(143, 4500), (1000, 5200)]
        ∧ (storeOf listB).holiday = false ∧ volumeOf (strata [(143, 4500), (1000, 5200)]) ≤ cfg.comfortTarget
        ∧ cfg.comfortTarget ≤ volumeOf (strata [(143, 4500), (1000, 5200)]) + (⟨800, 3000, 0, 0⟩ : Stratum).volume)
      ∧ ({ storeOf listB with holiday := true } : Store).holiday = true
      ∧ (volumeOf (strata [(1057, 1500)]) ≤ cfg.hygieneFloor
        ∧ cfg.hygieneFloor < volumeOf (strata [(1057, 1500)]) + (⟨800, 3000, 0, 0⟩ : Stratum).volume)
      ∧ volumeOf (strata [(1500, 1500)]) ≤ cfg.hygieneFloor := by decide +kernel

theorem witness_DepositsKeepVolumeAndCap :
    (5200 ≤ meanTemp (cut (3000 - 2000) (cut 2000 listB).2).1 ∧ meanTemp (cut (3000 - 2000) (cut 2000 listB).2).1 < 5201
        ∧ 11000 ≤ 11000)
      ∧ meanTemp (cut (3000 - 2000) (cut 2000 (List.replicate 32 ⟨100, 1500, 0, 0⟩)).2).1 < 1501
      ∧ (listB = strata [(1057, 1500), (800, 3000), (143, 4500)] ++ ⟨1000, 5200, 0, 0⟩ :: []
        ∧ volumeOf (strata [(1057, 1500), (800, 3000), (143, 4500)]) ≤ 3000)
      ∧ (volumeOf (strata [(1057, 1500)]) ≤ 1856 ∧ 1856 < volumeOf (strata [(1057, 1500)]) + (⟨800, 3000, 0, 0⟩ : Stratum).volume
        ∧ 3000 ≤ (⟨800, 3000, 0, 0⟩ : Stratum).temp ∧ (⟨800, 3000, 0, 0⟩ : Stratum).temp < 3001)
      ∧ ((⟨1057, 1500, 0, 0⟩ : Stratum).temp + 100 ≤ 1600 ∧ 1 ≤ min ((2 * 50 + (1600 - 1500)) / (2 * (1600 - 1500))) 600
        ∧ 1599 < (⟨1057, 1500, 0, 0⟩ : Stratum).temp + 100 ∧ min ((2 * 49 + (1600 - 1500)) / (2 * (1600 - 1500))) 600 = 0)
      ∧ ((∀ y ∈ strata [(1057, 1500), (800, 3000)], y.temp < (⟨143, 4500, 0, 0⟩ : Stratum).temp)
        ∧ ∀ y, (strata [(1000, 4500)]).head? = some y → (⟨143, 4500, 0, 0⟩ : Stratum).temp ≤ y.temp)
      ∧ (Entry.InStore (volumeOf listB) (.lance 750) ∧ Entry.InStore (volumeOf listB) (.coil 2999 3000)
        ∧ Entry.InStore (volumeOf listB) (.element 3000) ∧ ∀ x ∈ listB, 1 ≤ x.volume ∧ x.temp ≤ 11000)
      ∧ heatOf listB ≤ heatOf listB := by
  refine ⟨by decide +kernel, by decide +kernel, by decide +kernel, by decide +kernel, by decide,
    ⟨by decide +kernel, fun y hy => ?_⟩, ?_, Nat.le_refl _⟩
  · cases hy; decide
  · unfold Entry.InStore; decide +kernel

/-! ### Witnesses: the Charge Arbiter -/

/-- List B with grants: MUST_TAKE on port 1, NORMAL on port 4. -/
def granted : State :=
  withGrant (withGrant (run listB) .p1 (grantOf 0x01 (.mustTake false))) .p4 (grantOf 0x14 (normal 216))

theorem only {p : PortId} {s : State} {g : Grant} (h : s.grant p = some g) {q : Byte} (hq : g.handle ≠ q) :
    ∀ k, s.grant p = some k → k.handle ≠ q := by
  intro k hk; rw [h] at hk; cases hk; exact hq

theorem witness_KeepaliveComparesTheHandle :
    (∀ m, State.reset.Taking m State.reset) ∧ State.reset.store = none
      ∧ (∀ m, granted.Taking m granted) ∧ (granted.store ≠ none ∧ (granted.port .p6).config = none)
      ∧ ((granted.port .p4).config = ports.p4.config ∧ granted.grant .p4 = some (grantOf 0x14 (normal 216))
        ∧ (grantOf 0x14 (normal 216)).handle = 0x14)
      ∧ ((∀ g, granted.grant .p4 = some g → g.handle ≠ 0x04)
        ∧ (granted.port .p4).lastEnd = some { handle := 0x04, reason := .released })
      ∧ ((∀ g, granted.grant .p4 = some g → g.handle ≠ 0x24)
        ∧ ∀ e, (granted.port .p4).lastEnd = some e → e.handle ≠ 0x24) :=
  ⟨fun _ => taking _ (by decide), rfl, fun _ => taking _ (by decide), by decide +kernel, by decide +kernel,
    ⟨only (g := grantOf 0x14 (normal 216)) rfl (by decide), rfl⟩,
    only (g := grantOf 0x14 (normal 216)) rfl (by decide), fun e he => by cases he; decide⟩

theorem witness_ReleaseRevokeAndExpiryRetire :
    (∀ m, granted.Taking m granted) ∧ granted.store ≠ none
      ∧ ((granted.port .p4).config = ports.p4.config ∧ (granted.port .p6).config = none)
      ∧ granted.grant .p4 = some (grantOf 0x14 (normal 216))
      ∧ ((∀ g, granted.grant .p4 = some g → g.handle ≠ 0x04)
        ∧ (granted.port .p4).lastEnd = some { handle := 0x04, reason := .released })
      ∧ ((∀ g, granted.grant .p4 = some g → g.handle ≠ 0x24)
        ∧ ∀ e, (granted.port .p4).lastEnd = some e → e.handle ≠ 0x24)
      ∧ (6 < (7 : Byte).toNat ∧ (6 : Byte).toNat = PortId.p6.number ∧ granted.grant .p6 = none)
      ∧ ((4 : Byte).toNat = PortId.p4.number ∧ granted.pins.resetLow = false) :=
  ⟨fun _ => taking _ (by decide), by decide +kernel, by decide +kernel, rfl,
    ⟨only (g := grantOf 0x14 (normal 216)) rfl (by decide), rfl⟩,
    ⟨only (g := grantOf 0x14 (normal 216)) rfl (by decide), fun e he => by cases he; decide⟩, by decide +kernel,
    by decide +kernel⟩

/-- Solar-active over the grants of `granted`. -/
def solar : State := { granted with arbiter := { granted.arbiter with solarActive := true, solarIdle := some 9 } }

theorem witness_RetirementDoesExactlyThis :
    (granted.grant .p4 = some (grantOf 0x14 (normal 216)) ∧ ∀ h, (grantOf 0x14 (normal 216)).cls ≠ .mustTake h)
      ∧ granted.arbiter.solarActive = false
      ∧ (∃ q h hd, q ≠ PortId.p2 ∧ (withGrant solar .p2 (grantOf 2 (.mustTake false))).grant q = some h
        ∧ h.cls = .mustTake hd)
      ∧ (solar.grant .p1 = some (grantOf 0x01 (.mustTake false)) ∧ (grantOf 0x01 (.mustTake false)).cls = .mustTake false
        ∧ solar.arbiter.solarActive = true
        ∧ ∀ q h hd, q ≠ PortId.p1 → solar.grant q = some h → h.cls ≠ .mustTake hd) :=
  ⟨⟨rfl, nofun⟩, rfl, ⟨.p1, _, _, by decide, rfl, rfl⟩, rfl, rfl, rfl,
    fun q h hd hq hg => by cases q <;> cases hg <;> first | exact absurd rfl hq | nofun⟩

/-- A CONFIGURE_PORT payload. -/
def portPayload (port kind mode : Byte) (bottom top lance height cap : Nat) (rank : Byte) (liveness : Nat) : List Byte :=
  [port, kind, mode] ++ le 2 bottom ++ le 2 top ++ le 2 lance ++ le 2 height ++ le 2 cap ++ [rank] ++ le 2 liveness

theorem witness_ConfigurePortChecksAndSets :
    ((∀ m, granted.Taking m granted) ∧ (∀ p : List Byte, p.length = 16 → LongBodyGood (good p) p 16)
        ∧ granted.store = some (storeOf listB) ∧ 1000 ≤ (storeOf listB).cfg.volume)
      ∧ (let f := PortFields.ofPayload (portPayload 0 6 0 0 0 0 0 0 0 0); f.port = 0 ∧ 5 < f.kind)
      ∧ 6 < (PortFields.ofPayload (portPayload 7 1 1 0 1 0 0 0 0 0)).port
      ∧ (let f := PortFields.ofPayload (portPayload 1 1 3 0 1 0 0 0 0 0); f.port = PortId.p1.number ∧ f.kind ≤ 5 ∧ f.kind = 1
        ∧ f.mode = 3)
      ∧ (let f := PortFields.ofPayload (portPayload 6 1 2 0 0 751 0 0 0 0); f.port = PortId.p6.number ∧ f.kind = 1 ∧ f.mode = 2
        ∧ ¬f.lanceMax ≤ (storeOf listB).cfg.volume / 4)
      ∧ (let f := PortFields.ofPayload (portPayload 4 4 1 2000 3000 0 0 7500 2 120); f.port = PortId.p4.number ∧ f.kind = 4
        ∧ f.mode = 1 ∧ f.bottom < f.top ∧ f.top ≤ (storeOf listB).cfg.volume ∧ granted.grant .p4 ≠ none)
      ∧ (let f := PortFields.ofPayload (portPayload 3 3 1 1499 2200 0 0 5500 3 0); f.port = PortId.p3.number ∧ f.kind = 3
        ∧ f.mode = 1 ∧ f.bottom < f.top ∧ f.bottom < (storeOf listB).cfg.auxFloor ∧ granted.grant .p3 = none)
      ∧ (let f := PortFields.ofPayload (portPayload 3 0 9 0 0 0 0 0 0 0); f.port = PortId.p3.number ∧ f.kind = 0)
      ∧ (let f := PortFields.ofPayload (portPayload 5 5 3 0 0 0 3000 12000 0 65535); f.port = PortId.p5.number ∧ f.kind = 5
        ∧ f.mode = 3 ∧ f.height ≤ (storeOf listB).cfg.volume ∧ ¬f.height < (storeOf listB).cfg.auxFloor
        ∧ granted.grant .p5 = none) :=
  ⟨⟨fun _ => taking _ (by decide), fun p hp => goodBody hp, rfl, by decide⟩, by decide +kernel⟩

/-- A REQUEST_CHARGE payload. -/
def chargePayload (cls : Byte) (wanted supply : Nat) : List Byte := [cls] ++ le 2 wanted ++ le 2 supply

theorem witness_ChargeRequestsWithoutBudget :
    ((∀ m, granted.Taking m granted) ∧ (∀ c w s, LongBodyGood (good (chargePayload c w s)) (chargePayload c w s) 5)
        ∧ granted.store = some (storeOf listB) ∧ (granted.port .p6).config = none)
      ∧ ((granted.port .p1).config = ports.p1.config ∧ (granted.port .p4).config = ports.p4.config
        ∧ (granted.port .p5).config = ports.p5.config ∧ (granted.port .p2).config = ports.p2.config)
      ∧ ((ChargeFields.ofPayload (chargePayload 0 1 0)).cls ≠ 1 ∧ (ChargeFields.ofPayload (chargePayload 3 1 0)).cls ≠ 2)
      ∧ ((ChargeFields.ofPayload (chargePayload 1 0 0)).cls = 1 ∧ (ChargeFields.ofPayload (chargePayload 1 0 0)).wanted = 0)
      ∧ ((ChargeFields.ofPayload (chargePayload 2 0 0)).cls = 2 ∧ (storeOf listB).cfg.hygienePort ≠ PortId.p4.number
        ∧ (storeOf listB).cfg.hygienePort = PortId.p5.number)
      ∧ (granted.grant .p1 ≠ none ∧ granted.grant .p4 ≠ none ∧ granted.grant .p2 = none ∧ granted.grant .p5 = none
        ∧ (withGrant granted .p5 (grantOf 5 .hygiene)).grant .p5 ≠ none
        ∧ (ChargeFields.ofPayload (chargePayload 1 1 0)).wanted ≠ 0)
      ∧ (granted.arbiter.overheat = false ∧ granted.hygiene.state ≠ .due
        ∧ ({ granted with arbiter := { granted.arbiter with overheat := true } } : State).arbiter.overheat = true
        ∧ ({ granted with hygiene := { state := .due, limit := none } } : State).hygiene.state = .due) :=
  ⟨⟨fun _ => taking _ (by decide), fun c w s => goodBody (by simp [chargePayload]), rfl, by decide +kernel⟩, by decide +kernel⟩

/-- The worked store where port 3 asks beside a NORMAL grant of port 5. -/
def outranked : State := withGrant (run listB) .p5 (grantOf 0x05 (normal 200))

theorem witness_NormalRequestsGetTheAllowance :
    ((∀ m, outranked.Taking m outranked) ∧ LongBodyGood (good (chargePayload 1 100 5000)) (chargePayload 1 100 5000) 5
        ∧ outranked.store = some (storeOf listB) ∧ (outranked.port .p4).config = ports.p4.config
        ∧ (ChargeFields.ofPayload (chargePayload 1 100 5000)).cls = 1
        ∧ (ChargeFields.ofPayload (chargePayload 1 100 5000)).wanted ≠ 0 ∧ outranked.grant .p4 = none)
      ∧ (({ outranked with arbiter := { outranked.arbiter with overheat := true } } : State).arbiter.overheat = true
        ∧ (holiday listB).arbiter.overheat = false ∧ (holiday listB).mode = .holiday
        ∧ solar.arbiter.solarActive = true ∧ solar.arbiter.comfortEmergency = false ∧ solar.grant .p3 = none)
      ∧ (outranked.arbiter.solarActive = false ∧ min 4999 11000 < (storeOf listB).cfg.tComfort
        ∧ (storeOf listB).cfg.tComfort ≤ min (ChargeFields.ofPayload (chargePayload 1 100 5000)).supply 11000)
      ∧ freeNeed (storeOf (strata [(1800, 1500), (1200, 5000)])) (run listB).arbiter .p4 = 0
      ∧ (freeNeed (storeOf listB) (run listB).arbiter .p4 ≠ 0
        ∧ roomTerm (storeOf listB) { (run listB).arbiter with forecast := 16477 } = 0)
      ∧ min 100 (min (freeNeed (storeOf listB) (outranked.outrank (storeOf listB) .p4 2 100).arbiter .p4)
          (roomTerm (storeOf listB) (outranked.outrank (storeOf listB) .p4 2 100).arbiter)) ≠ 0 :=
  ⟨⟨fun _ => taking _ (by decide), goodBody rfl, rfl, by decide +kernel⟩, by decide +kernel⟩

theorem witness_OutrankingTakesTheLowestRankFirst :
    16 ≤ freeNeed (storeOf listB) outranked.arbiter .p4
      ∧ (outranked.grant .p5 = some (grantOf 0x05 (normal 200))
        ∧ (outranked.outrank (storeOf listB) .p4 2 100).grant .p5 = none ∧ (outranked.port .p5).config = ports.p5.config)
      ∧ (outranked.outrank (storeOf listB) .p4 4 100).grant .p5 ≠ none
      ∧ ((withGrant outranked .p3 (grantOf 3 (normal 16))).outrank (storeOf listB) .p4 2 100).grant .p3 ≠ none := by
  decide +kernel

/-- Ports 3 and 5 both give way to port 4, and port 5, of the greater rank number, goes first: with it gone, the free need is
still below the wanted Wh. -/
theorem witness_OutrankingTakesTheLowestRankFirst_while :
    ∃ (s : State) (a : Arbiter), s.grant .p3 ≠ none ∧ (s.outrank (storeOf listB) .p4 2 217).grant .p3 = none
      ∧ (∀ k, k = PortId.p5 ↔ s.grant k ≠ none ∧ (s.outrank (storeOf listB) .p4 2 217).grant k = none
          ∧ ∃ r', (∃ g n c, s.arbiter.grants.get k = some g ∧ g.cls = .normal n ∧ (s.arbiter.ports.get k).config = some c
            ∧ c.source.rank = some r') ∧ (3 < r' ∨ r' = 3 ∧ k.number < PortId.p3.number))
      ∧ a.grants.get .p5 = none ∧ ∀ k, k ≠ PortId.p5 → a.grants.get k = s.grant k := by
  refine ⟨withGrant outranked .p3 (grantOf 3 (normal 16)), (withGrant (run listB) .p3 (grantOf 3 (normal 16))).arbiter,
    by decide +kernel, by decide +kernel, fun k => ⟨?_, ?_⟩, rfl, fun k hk => by cases k <;> first | rfl | exact absurd rfl hk⟩
  · rintro rfl
    exact ⟨by decide +kernel, by decide +kernel, 4, ⟨_, _, _, rfl, rfl, rfl, rfl⟩, .inl (by decide)⟩
  · rintro ⟨hs, _, r, ⟨g, n, c, hg, _, hc, hr⟩, h⟩
    cases k <;> cases hc <;> cases hr <;> first | rfl | exact absurd rfl hs | exact absurd h (by decide)

/-- A DEPOSIT payload. -/
def depositPayload (handle : Byte) (energy supply : Nat) : List Byte := [handle] ++ le 2 energy ++ le 2 supply

theorem witness_UnmatchedDepositsAreCountedUngranted :
    ((∀ m, granted.Taking m granted) ∧ (∀ h e s, LongBodyGood (good (depositPayload h e s)) (depositPayload h e s) 5)
        ∧ granted.store = some (storeOf listB) ∧ (granted.port .p6).config = none)
      ∧ ((granted.port .p4).config = ports.p4.config ∧ (∀ g, granted.grant .p4 = some g → g.handle ≠ 0x04)
        ∧ (granted.port .p4).lastEnd = some { handle := 0x04, reason := .released })
      ∧ ((∀ g, granted.grant .p4 = some g → g.handle ≠ 0x24) ∧ ∀ e, (granted.port .p4).lastEnd = some e → e.handle ≠ 0x24)
      ∧ ((DepositFields.ofPayload (depositPayload 0x04 0 0)).energy = 0
        ∧ (DepositFields.ofPayload (depositPayload 0x04 1 0)).energy ≠ 0
        ∧ (DepositFields.ofPayload (depositPayload 0x04 1 0)).handle = 0x04) :=
  ⟨⟨fun _ => taking _ (by decide), fun h e s => goodBody (by simp [depositPayload]), rfl, by decide +kernel⟩,
    ⟨by decide +kernel, only (g := grantOf 0x14 (normal 216)) rfl (by decide), rfl⟩,
    ⟨only (g := grantOf 0x14 (normal 216)) rfl (by decide), fun e he => by cases he; decide⟩, by decide +kernel⟩

/-- A run on port 5 whose tracked strata are all clean. -/
def running : State :=
  { withGrant (run listB) .p5 (grantOf 0x05 .hygiene) with hygiene := { state := .inProgress, limit := some 5 } }

theorem running_hygiene : running.HygieneSound := by
  have only {p : PortId} {g : Grant} (h : running.grant p = some g) : p = .p5 := by cases p <;> cases h; rfl
  refine ⟨by constructor <;> intro _ <;> first | exact ⟨.p5, _, rfl, rfl⟩ | rfl, ?_, by decide⟩
  exact fun p q g h hp hq _ _ => (only hp).trans (only hq).symm

/-- The run of port 5 with an alarm set. -/
def alarmed : State := withProbe running .n4 { seeking 9500 with alarm := true }

theorem witness_MatchedDepositsAreBookedToTheGrant :
    ((∀ m, granted.Taking m granted) ∧ (∀ h e s, LongBodyGood (good (depositPayload h e s)) (depositPayload h e s) 5)
        ∧ granted.store = some (storeOf listB) ∧ (granted.port .p4).config = ports.p4.config
        ∧ granted.grant .p4 = some (grantOf 0x14 (normal 216))
        ∧ (DepositFields.ofPayload (depositPayload 0x14 0 0)).handle = 0x14
        ∧ (DepositFields.ofPayload (depositPayload 0x14 0 0)).energy = 0)
      ∧ ((DepositFields.ofPayload (depositPayload 0x14 1 7000)).energy ≠ 0 ∧ granted.hygiene.state ≠ .inProgress)
      ∧ (running.grant .p5 = some (grantOf 0x05 .hygiene) ∧ running.hygiene.state = .inProgress ∧ running.HygieneSound
        ∧ ∀ x ∈ ({ storeOf listB with
              strata := (depositList cfg (.element 2300) (1 * 860) (min (min 7000 7500) 11000) listB).1 } : Store).trackedStrata,
            x.age = 0)
      ∧ ((withGrant running .p4 (grantOf 0x14 (normal 216))).hygiene.state = .inProgress
        ∧ (withGrant running .p4 (grantOf 0x14 (normal 216))).arbiter.overheat = false
        ∧ ∀ n ∈ ProbeId.all, ((withGrant running .p4 (grantOf 0x14 (normal 216))).probes.get n).alarm = false)
      ∧ ((withGrant alarmed .p4 (grantOf 0x14 (normal 216))).arbiter.overheat = false
        ∧ ((withGrant alarmed .p4 (grantOf 0x14 (normal 216))).probes.get .n4).alarm = true) :=
  ⟨⟨fun _ => taking _ (by decide), fun h e s => goodBody (by simp [depositPayload]), rfl, by decide +kernel⟩,
    by decide +kernel, ⟨rfl, rfl, running_hygiene, by decide +kernel⟩, by decide +kernel, by decide +kernel⟩

/-! ### Witnesses: notices and probes -/

theorem witness_NoticesReadsAndClears :
    (State.reset.Taking ⟨12, 0, .short 0xFF 0xFF⟩ State.reset) ∧ (run listB).Taking ⟨13, 0, .short 0 0⟩ (run listB) :=
  ⟨taking _ (by decide), taking _ (by decide)⟩

theorem witness_FlagsFallOnlyByNoticesAndReset :
    (∃ t, exec .stallExpiry ((run listB).raise .linkError) = .next t) ∧ Instr.stallExpiry ≠ .powerOn
      ∧ Instr.stallExpiry ≠ .resetPinLow ∧ Instr.stallExpiry ≠ .resetPinRelease ∧ Instr.stallExpiry ≠ .resetFullTakesEffect
      ∧ (∀ ch p0 p1, Instr.stallExpiry ≠ .notices ch p0 p1) ∧ (∀ ch p0 p1, Instr.stallExpiry ≠ .noticeEnable ch p0 p1)
      ∧ ((run listB).raise .linkError).notices.flags.getLsbD 14 = true :=
  ⟨⟨_, rfl⟩, by decide, by decide, by decide, by decide, nofun, nofun, by decide +kernel⟩

/-- Probe 4 in flight. -/
def converting (s : State) (p : Probe) : State :=
  { withProbe s .n4 p with
    scanner := { conversion := some { probe := .n4, timeout := 9, reconfigured := false }, rescanPending := true
                 interval := some 9 } }

theorem witness_ScanStartsOrIsOwed :
    (run listB).store = some (storeOf listB) ∧ (∀ m, (run listB).Taking m (run listB))
      ∧ ((run listB).scanner.conversion = none ∧ (run listB).scanner.interval = none ∧ (run listB).pins.resetLow = false)
      ∧ ((∀ m, (converting (run listB) (seeking 0)).Taking m (converting (run listB) (seeking 0)))
        ∧ (converting (run listB) (seeking 0)).scanner.conversion ≠ none
        ∧ (converting (run listB) (seeking 0)).scanner.interval ≠ none)
      ∧ (({ run listB with scanner := { conversion := none, rescanPending := false, interval := some 0 } } : State).scanner.interval
          ≠ none) :=
  ⟨rfl, fun _ => taking _ (by decide), by decide +kernel, ⟨fun _ => taking _ (by decide), by decide +kernel⟩,
    by decide +kernel⟩

theorem witness_ConversionsEndAndTheCycleMovesOn :
    ((run listB).pins.resetLow = false ∧ (run listB).scanner.conversion = none)
      ∧ ((converting (run listB) (seeking 0)).scanner.conversion
          = some { probe := .n4, timeout := 9, reconfigured := false } ∧ 5 ≠ ProbeId.n4.number)
      ∧ ((converting (run listB) (seeking 0)).nextEnabled ProbeId.n3.number = some .n4
        ∧ (converting (run listB) (seeking 0)).nextEnabled ProbeId.n4.number = none
        ∧ (run listB).nextEnabled ProbeId.n4.number = none ∧ (run listB).scanner.rescanPending = false
        ∧ (converting (run listB) (seeking 0)).scanner.rescanPending = true
        ∧ (converting (run listB) (seeking 0)).store = some (storeOf listB)) := by decide +kernel

theorem witness_ReadingsAlarmCompareAndCorrect :
    ((run listC).store = some (storeOf listC)
        ∧ ((withProbe (run listC) .n4 (seeking 0)).probes.get .n4).config = some probeConfig)
      ∧ ({ seeking 0 with state := .lockout } : Probe).state = .lockout
      ∧ ((seeking 0).state ≠ .lockout ∧ (tempAt 2800 listC : Int) - (5960 : Nat) ≤ probeConfig.tolerance
        ∧ -(probeConfig.tolerance : Int) ≤ (tempAt 2800 listC : Int) - (6160 : Nat))
      ∧ ((probeConfig.tolerance : Int) < (tempAt 2800 listC : Int) - (5959 : Nat)
        ∧ (tempAt 2800 listC : Int) - (6161 : Nat) < -(probeConfig.tolerance : Int))
      ∧ ({ seeking 0 with state := .locked } : Probe).state ≠ .seeking
      ∧ ((clipCorrection (-500) (roundDivInt (-((tempAt 2800 listC : Int) - (5959 : Nat))) (2 ^ probeConfig.shift)) 500).2 = true
        ∧ (clipCorrection (-500) (roundDivInt (-((tempAt 2800 listC : Int) - (5959 : Nat))) (2 ^ probeConfig.shift)) 500).1 = 0
        ∧ (clipCorrection (-490) (roundDivInt (-((tempAt 2800 listC : Int) - (5959 : Nat))) (2 ^ probeConfig.shift)) 500)
          = (-10, true)
        ∧ ({ seeking 0 with cumulative := -500, limited := 2 } : Probe).limited + 1 = 3) := by decide +kernel

theorem witness_CorrectionsAreClippedAndCarriedOut :
    (-((500 : Nat) : Int) ≤ -438 ∧ (-438 : Int) ≤ (500 : Nat) ∧ -438 + -62 = -((500 : Nat) : Int)
        ∧ -438 + -141 < -((500 : Nat) : Int) ∧ ((500 : Nat) : Int) < 438 + 63)
      ∧ (1 ≤ 1 ∧ 3 ≤ 3 ∧ 20 ≤ 20 ∧ ((20 : Nat) : Int) < (-21 : Int).natAbs)
      ∧ (∃ s : State, s.pins.resetLow = false ∧ s.store = some (storeOf listB)
        ∧ s.corrections = { height := 1900, amount := 680 } :: []
        ∧ (storeOf listB).strata = strata [(1057, 1500), (800, 3000)] ++ ⟨143, 4500, 0, 0⟩ :: strata [(1000, 5200)]
        ∧ volumeOf (strata [(1057, 1500), (800, 3000)]) ≤ 1900
        ∧ 1900 < volumeOf (strata [(1057, 1500), (800, 3000)]) + (⟨143, 4500, 0, 0⟩ : Stratum).volume)
      ∧ (storeOf listB).strata
          = strata [(1057, 1500), (800, 3000), (143, 4500)] ++ ⟨1000, 5200, 0, 0⟩ :: []
      ∧ (run listB).corrections = [] :=
  ⟨by decide, by decide, ⟨{ run listB with corrections := [{ height := 1900, amount := 680 }] }, by decide +kernel⟩,
    by decide +kernel, rfl⟩

/-- Probe 4 locked out with its alarm set. -/
def lockedOut : State := withProbe (run listB) .n4 { seeking 9500 with state := .lockout, alarm := true, holdTimer := some 0 }

theorem witness_ProbeClearDoesTheNamedActions :
    (∀ m, lockedOut.Taking m lockedOut) ∧ lockedOut.store = some (storeOf listB)
      ∧ (8 < (9 : Byte).toNat ∧ 7 < (8 : Byte).toNat ∧ (0 : Byte) = 0)
      ∧ ((4 : Byte).toNat = ProbeId.n4.number ∧ (7 : Byte).toNat ≤ 7)
      ∧ ((7 : Byte).getLsbD 0 ∧ (lockedOut.probes.get .n4).state = .lockout ∧ (lockedOut.probes.get .n4).alarm = true) :=
  ⟨fun _ => taking _ (by decide), rfl, by decide, by decide, by decide +kernel⟩

/-- A CONFIGURE_PROBE payload with every tuning field 0. -/
def probePayload (probe enabled : Byte) (height : Nat) (mode : Byte) : List Byte :=
  [probe, enabled] ++ le 2 height ++ [0, 0, 0, 0, 0, 0, 0, 0, 0, mode]

theorem witness_ProbesAreConfiguredAndReleased :
    ((∀ m, lockedOut.Taking m lockedOut) ∧ (∀ p : List Byte, p.length = 14 → LongBodyGood (good p) p 14)
        ∧ (probePayload 4 1 3000 1).length = 14 ∧ lockedOut.store = some (storeOf listB))
      ∧ ((ProbeFields.ofPayload (probePayload 0 1 0 0)).probe = 0 ∧ 8 < (ProbeFields.ofPayload (probePayload 9 1 0 0)).probe
        ∧ 1 < (ProbeFields.ofPayload (probePayload 1 1 0 2)).alarmMode ∧ 1 < (ProbeFields.ofPayload (probePayload 1 2 0 0)).enabled
        ∧ (storeOf listB).cfg.volume < (ProbeFields.ofPayload (probePayload 1 1 3001 0)).height)
      ∧ (let f := ProbeFields.ofPayload (probePayload 4 1 3000 1)
        f.probe = ProbeId.n4.number ∧ f.alarmMode ≤ 1 ∧ f.enabled ≤ 1 ∧ f.height ≤ (storeOf listB).cfg.volume)
      ∧ (lockedOut.pins.resetLow = false ∧ (lockedOut.probes.get .n1).holdTimer = none
        ∧ (lockedOut.probes.get .n4).holdTimer ≠ none ∧ (lockedOut.probes.get .n4).state = .lockout) :=
  ⟨⟨fun _ => taking _ (by decide), fun _ h => goodBody h, rfl, rfl⟩, by decide +kernel⟩

/-! ### Witnesses: solar, resumption, overheat, comfort and hygiene -/

/-- A SUSPENDED NORMAL grant. -/
def waiting : GrantClass := .normal { budget := 216, minRun := none, suspendPending := false, suspended := true }

/-- A NORMAL grant whose minimum run runs and which is marked. -/
def marked : GrantClass := .normal { budget := 216, minRun := some 0, suspendPending := true, suspended := false }

/-- Five ports under one sun: port 6's grant is marked, and the resume list is full. -/
def crowded : State :=
  let s := withGrant (withGrant (withGrant (withGrant solar .p6 (grantOf 6 marked)) .p2 (grantOf 2 waiting)) .p3
    (grantOf 3 waiting)) .p5 (grantOf 5 waiting)
  { s with arbiter := { s.arbiter with resume := [.p5, .p4, .p3, .p2] } }

theorem test_push_onto_full_list_abandons_oldest :
    after (exec (.minRunExpiry .p6) crowded)
      (fun s => (s.arbiter.resume, s.grant .p2, (s.port .p2).lastEnd, s.notices.flags))
      = some ([.p6, .p5, .p4, .p3], none, some { handle := 2, reason := .abandoned }, 0x8001) := by decide +kernel

theorem witness_ArbiterExpiriesSuspendClearAndFail :
    (granted.pins.resetLow = false ∧ granted.grant .p4 = some (grantOf 0x14 (normal 216)))
      ∧ ((withGrant solar .p4 (grantOf 0x14 marked)).grant .p4 = some (grantOf 0x14 marked)
        ∧ (withGrant solar .p4 (grantOf 0x14 marked)).arbiter.resume.length < 4)
      ∧ (crowded.grant .p6 = some (grantOf 6 marked) ∧ crowded.arbiter.resume = [.p5, .p4, .p3, .p2]
        ∧ ([.p6, .p5, .p4, .p3, .p2] : List PortId).Nodup ∧ crowded.grant .p2 = some (grantOf 2 waiting))
      ∧ (∀ g n, granted.grant .p1 = some g → g.cls = .normal n → n.minRun = none)
      ∧ granted.arbiter.solarIdle = none
      ∧ (busySolar.pins.resetLow = false ∧ busySolar.arbiter.solarIdle ≠ none ∧ busySolar.arbiter.solarActive = true
        ∧ PortId.p5 ∉ busySolar.arbiter.resume ∧ busySolar.grant .p5 = some (grantOf 5 .hygiene))
      ∧ granted.hygiene.limit = none
      ∧ (busy.HygieneSound ∧ busy.grant .p5 = some (grantOf 5 .hygiene)) :=
  ⟨⟨rfl, rfl⟩, by decide +kernel, by decide +kernel, fun g n hg => (by cases hg; nofun), rfl, by decide +kernel, rfl, busy_hygiene, rfl⟩

theorem witness_SuspensionAndResumption :
    ((PortId.all.filter fun p => match granted.grant p with
        | some g => match g.cls with
          | .normal n => !n.suspended && decide (n.minRun = none) | .mustTake _ => false | .hygiene => false
        | none => false).length + granted.arbiter.resume.length ≤ 4)
      ∧ (∃ s : State, s.arbiter.resume = [.p4, .p3, .p2, .p1] ∧ ([.p4, .p3, .p2, .p1] : List PortId).Nodup
        ∧ s.grant .p1 ≠ none)
      ∧ (granted.grant .p4 = some (grantOf 0x14 (normal 216))
        ∧ (withGrant solar .p4 (grantOf 0x14 marked)).grant .p4 = some (grantOf 0x14 marked))
      ∧ ((grantOf 2 waiting).cls = waiting ∧ granted.arbiter.resume.length < 4)
      ∧ (crowded.arbiter.resume = [.p5, .p4, .p3] ++ [.p2] ∧ 3 ≤ ([.p5, .p4, .p3] : List PortId).length)
      ∧ granted.arbiter.resume = []
      ∧ (busySolar.arbiter.resume = .p4 :: [] ∧ PortId.p4 ∉ ([] : List PortId))
      ∧ (granted.store = some (storeOf listB) ∧ granted.grant .p4 = some (grantOf 0x14 (normal 216))
        ∧ min (216 - 0) (min (freeNeed (storeOf listB) granted.arbiter .p4) (roomTerm (storeOf listB) granted.arbiter)) ≠ 0)
      ∧ min 0 (min (freeNeed (storeOf listB) granted.arbiter .p4) (roomTerm (storeOf listB) granted.arbiter)) = 0
      ∧ (solar.arbiter.solarActive = true ∧ granted.arbiter.solarActive = false ∧ granted.arbiter.comfortEmergency = false)
      ∧ ({ granted with arbiter := { granted.arbiter with comfortEmergency := true } } : State).arbiter.comfortEmergency = true :=
  ⟨by decide +kernel,
    ⟨{ granted with arbiter := { granted.arbiter with resume := [.p4, .p3, .p2, .p1] } }, by decide +kernel⟩, by decide +kernel⟩

/-- The worked store with its top at the overheat limit. -/
def hot : List Stratum := strata [(2000, 1500), (1000, 8000)]

def overheated (l : List Stratum) : State :=
  { withGrant (run l) .p1 (grantOf 0x01 (.mustTake true)) with
    arbiter := { (withGrant (run l) .p1 (grantOf 0x01 (.mustTake true))).arbiter with overheat := true } }

theorem witness_OverheatIsSetAndCleared :
    (granted.store = some (storeOf listB) ∧ granted.arbiter.overheat = false
        ∧ ¬cfg.tMax ≤ topTemp listB ∧ (∀ n ∈ ProbeId.all, (granted.probes.get n).alarm = false))
      ∧ ((overheated hot).store = some (storeOf hot) ∧ (overheated hot).arbiter.overheat = true
        ∧ ¬topTemp hot ≤ cfg.tMax - cfg.hysteresis)
      ∧ ((overheated listB).arbiter.overheat = true ∧ topTemp (strata [(3000, 7700)]) ≤ cfg.tMax - cfg.hysteresis
        ∧ ∀ n ∈ ProbeId.all, ((overheated listB).probes.get n).alarm = false)
      ∧ (cfg.tMax ≤ topTemp hot ∧ (lockedOut.probes.get .n4).alarm = true)
      ∧ (busy.grant .p6 = none ∧ busy.grant .p1 = some (grantOf 1 (.mustTake false))
        ∧ busy.grant .p5 = some (grantOf 5 .hygiene) ∧ busy.hygiene.state = .inProgress ∧ busy.arbiter.overheat = false) := by
  decide +kernel

/-- The worked store with less hot water than its minimum. -/
def cold : List Stratum := strata [(2601, 1500), (399, 4500)]

theorem witness_ComfortEmergencyIsEnteredAndLeft :
    ((holiday cold).store = some { storeOf cold with holiday := true })
      ∧ ((run listB).store = some (storeOf listB) ∧ (storeOf listB).holiday = false
        ∧ ¬(storeOf listB).hotVolume < (storeOf listB).cfg.minHotVolume ∧ (run listB).arbiter.comfortEmergency ≠ true)
      ∧ ((storeOf cold).hotVolume < (storeOf cold).cfg.minHotVolume ∧ (run cold).arbiter.comfortEmergency = false)
      ∧ (∃ s : State, s.store = some (storeOf (strata [(2600, 1500), (400, 4500)]))
        ∧ ¬(storeOf (strata [(2600, 1500), (400, 4500)])).hotVolume < cfg.minHotVolume
        ∧ s.arbiter.comfortEmergency = true ∧ s.arbiter.solarActive = false)
      ∧ (solar.arbiter.solarActive = true ∧ State.reset.store = none ∧ (run listB).hygiene.state ≠ .inProgress)
      ∧ (alarmed.store = some (storeOf listB) ∧ alarmed.hygiene.state = .inProgress
        ∧ (∀ x ∈ (storeOf listB).trackedStrata, x.age = 0) ∧ alarmed.arbiter.overheat = false
        ∧ (alarmed.probes.get .n4).alarm = true) :=
  ⟨rfl, by decide +kernel, by decide +kernel,
    ⟨{ run (strata [(2600, 1500), (400, 4500)]) with
        arbiter := { (run listB).arbiter with comfortEmergency := true } }, by decide +kernel⟩, by decide +kernel,
    by decide +kernel⟩

/-- Strata as list B with an age in the top one. -/
def aged (age : Nat) : Store := { storeOf listB with strata := strata [(1057, 1500), (800, 3000)] ++ [⟨1143, 5100, age, 0⟩] }

theorem witness_HygieneMonitorLooks :
    ((run listB).store = some (storeOf listB) ∧ (run listB).hygiene.state = .clear
        ∧ ¬∃ x ∈ (aged 10079).trackedStrata, (aged 10079).cfg.hygieneInterval ≤ x.age)
      ∧ (∃ x ∈ (aged 10080).trackedStrata, (aged 10080).cfg.hygieneInterval ≤ x.age)
      ∧ (busy.hygiene.state ≠ .clear ∧ ¬∀ x ∈ (aged 1).trackedStrata, x.age = 0)
      ∧ (({ run listB with hygiene := { state := .due, limit := none } } : State).hygiene.state = .due
        ∧ ∀ x ∈ (storeOf listB).trackedStrata, x.age = 0)
      ∧ (busy.HygieneSound ∧ busy.grant .p5 = some (grantOf 5 .hygiene) ∧ (grantOf 5 .hygiene).cls = .hygiene
        ∧ busy.store = some (storeOf listB)) :=
  ⟨by decide +kernel, by decide +kernel, by decide +kernel, by decide +kernel, busy_hygiene, rfl, rfl, rfl⟩

/-! ### Witnesses: the whole machine -/

theorem witness_OnlyModelOperationsChangeTheWater :
    ∃ t, exec .solarIdleExpiry busySolar = .next t := ⟨_, rfl⟩

/-- A state with one command waiting. -/
def await (s : State) (c : Instr) : State := { s with pending := [c] }

theorem witness_EveryStepKeepsAttn :
    (await ((run listB).raise .linkError) .stallExpiry).AttnSound
      ∧ ∃ t, step (await ((run listB).raise .linkError) .stallExpiry) = .next t :=
  ⟨⟨fun _ => ⟨14, by decide +kernel⟩, fun _ => by decide +kernel⟩, _, rfl⟩

theorem witness_EveryStepKeepsTheStore :
    (await (run listB) .lossIntervalExpiry).StoreSound ∧ ∃ t, step (await (run listB) .lossIntervalExpiry) = .next t := by
  refine ⟨fun st hs => ?_, _, rfl⟩
  cases hs
  refine ⟨⟨?_, by decide +kernel, by decide, ?_, ?_, by decide, by decide⟩, fun p c hc => ?_, fun n c hc => ?_, fun n r hr => ?_⟩
  · have h := cfg_inRange
    rwa [test_configuration_record] at h
  · simp only [storeOf, listB, strata, List.map, NormalList, Rising]; decide
  · unfold Stratum.InRange; decide
  · cases p <;> cases hc <;> (unfold Entry.InStore; decide)
  · cases n <;> cases hc
  · cases n <;> cases hr

theorem witness_EveryStepKeepsTheGrants :
    (await busySolar .solarIdleExpiry).GrantsSound ∧ ∃ t, step (await busySolar .solarIdleExpiry) = .next t := by
  refine ⟨fun p g hg => ?_, _, rfl⟩
  cases p <;> cases hg <;>
    exact ⟨rfl, ⟨_, rfl, trivial⟩, by decide, fun e he => by cases he <;> decide, by decide, by decide,
      fun n hn => by cases hn <;> decide⟩

theorem busySolar_resume : busySolar.ResumeSound := by
  refine ⟨by decide, by decide, fun p => ⟨fun hp => ?_, fun ⟨g, n, hg, hc, hs⟩ => ?_⟩, nofun, nofun, fun p g n hg hc hm => ?_,
    fun p g n hg hc hs => ?_, by decide, fun _ => ⟨.p1, _, _, rfl, rfl⟩⟩
  · obtain rfl : p = .p4 := by simpa [busySolar] using hp
    exact ⟨_, _, rfl, rfl, rfl⟩
  · cases p <;> cases hg <;> cases hc; decide
  · cases p <;> cases hg <;> cases hc; cases hm
  · cases p <;> cases hg <;> cases hc; rfl

theorem witness_EveryStepKeepsTheResumeList :
    (await busySolar .solarIdleExpiry).GrantsSound ∧ (await busySolar .solarIdleExpiry).ResumeSound
      ∧ ∃ t, step (await busySolar .solarIdleExpiry) = .next t :=
  ⟨witness_EveryStepKeepsTheGrants.1, busySolar_resume, _, rfl⟩

theorem witness_EveryStepKeepsOverheatAndHoliday :
    ((await (overheated hot) .lossIntervalExpiry).OverheatSound ∧ ∃ t, step (await (overheated hot) .lossIntervalExpiry) = .next t)
      ∧ ((await (holiday listB) .lossIntervalExpiry).HolidaySound
        ∧ ∃ t, step (await (holiday listB) .lossIntervalExpiry) = .next t) :=
  ⟨⟨fun p g hg => by cases p <;> cases hg; exact ⟨fun _ => rfl, nofun⟩, _, rfl⟩,
    fun _ => ⟨rfl, fun p g n hg => by cases p <;> cases hg⟩, _, rfl⟩

theorem witness_EveryStepKeepsHygiene :
    (await busy .hygieneTimeLimitExpiry).HygieneSound ∧ ∃ t, step (await busy .hygieneTimeLimitExpiry) = .next t :=
  ⟨busy_hygiene, _, rfl⟩

theorem witness_EveryStepKeepsTheProbes :
    (await (withProbe (run listB) .n4 { seeking 500 with state := .lockout, cumulative := -500, limited := 3 })
        (.lockoutHoldExpiry .n4)).ProbesSound
      ∧ ∃ t, step (await (withProbe (run listB) .n4 { seeking 500 with state := .lockout, cumulative := -500, limited := 3 })
        (.lockoutHoldExpiry .n4)) = .next t := by
  refine ⟨fun n => ?_, _, rfl⟩
  cases n <;>
    exact ⟨by decide, by decide, by decide, by decide, fun _ _ => by decide, fun c hc => (by cases hc <;> decide), fun h => (by first | decide | cases h)⟩

theorem witness_EveryStepKeepsTheLink :
    (await (framing (.payload 20 1 5 [0, 0, 0, 0, 0, 0])) (.rxByte 0)).LinkSound
      ∧ ∃ t, step (await (framing (.payload 20 1 5 [0, 0, 0, 0, 0, 0])) (.rxByte 0)) = .next t :=
  ⟨⟨⟨by decide, nofun, by simp only [await, framing, Framing.Sound]; decide, by decide⟩, by decide⟩, _, rfl⟩

end Sys2Proof.Tests
end

