-- ==== Sys2Proof/Proofs/StandingLoss.lean ====
section
/-!
PROOF. The signed rounding of R2, the drop of one loss step and a stratum after it (R68), and from them R69: a loss step
moves a stratum toward ambient and never past it.
-/

namespace Sys2Proof.Machine

/-- Over an even divisor the rounding adds half of it before the floor. -/
theorem roundDiv_two_mul (n c : Nat) : roundDiv n (2 * c) = (n + c) / (2 * c) := by
  rw [roundDiv, ← Nat.mul_add, Nat.mul_div_mul_left _ _ two_pos]

theorem roundDiv_zero_left (d : Nat) : roundDiv 0 d = 0 :=
  Nat.div_eq_zero_iff.mpr (by omega)

theorem roundDivInt_of_nonneg {n : Int} (h : 0 ≤ n) (d : Nat) : roundDivInt n d = roundDiv n.natAbs d := by
  rw [roundDivInt, if_pos h, show n.toNat = n.natAbs by omega]

theorem roundDivInt_of_nonpos {n : Int} (h : n ≤ 0) (d : Nat) : roundDivInt n d = -roundDiv n.natAbs d := by
  rcases h.lt_or_eq with hneg | rfl
  · rw [roundDivInt, if_neg hneg.not_ge, show (-n).toNat = n.natAbs by omega]
  · simp [roundDivInt, roundDiv_zero_left]

/-- The signed drop has the size of the unsigned rounding of |x| × k (R2, R68). -/
theorem natAbs_lossDrop (ambient k temp : Nat) :
    (lossDrop ambient k temp).natAbs = (((temp : Int) - ambient).natAbs * k + 32768) / 65536 := by
  have size : (lossDrop ambient k temp).natAbs = roundDiv (((temp : Int) - ambient) * k).natAbs (2 * 32768) := by
    rcases le_total 0 (((temp : Int) - ambient) * k) with h | h
    · rw [lossDrop, roundDivInt_of_nonneg h, Int.natAbs_natCast]
    · rw [lossDrop, roundDivInt_of_nonpos h, Int.natAbs_neg, Int.natAbs_natCast]
  rw [size, roundDiv_two_mul, Int.natAbs_mul, Int.natAbs_natCast]

theorem lossDrop_nonneg {ambient temp : Nat} (h : ambient ≤ temp) (k : Nat) : 0 ≤ lossDrop ambient k temp := by
  rw [lossDrop, roundDivInt_of_nonneg (mul_nonneg (by omega) k.cast_nonneg)]
  exact Nat.cast_nonneg _

theorem lossDrop_nonpos {ambient temp : Nat} (h : temp ≤ ambient) (k : Nat) : lossDrop ambient k temp ≤ 0 := by
  rw [lossDrop, roundDivInt_of_nonpos (mul_nonpos_of_nonpos_of_nonneg (by omega) k.cast_nonneg)]
  exact neg_nonpos.mpr (Nat.cast_nonneg _)

/-- The still band of R69. -/
theorem lossDrop_eq_zero_iff (ambient k temp : Nat) :
    lossDrop ambient k temp = 0 ↔ ((temp : Int) - ambient).natAbs * k < 32768 := by
  rw [← Int.natAbs_eq_zero, natAbs_lossDrop]
  omega

/-- What keeps a loss step from reaching ambient: `k` is far under half the divisor, so the exact drop is under half the
distance, and rounding adds at most a half to it (R69). -/
theorem natAbs_lossDrop_lt {ambient k temp : Nat} (hk : k ≤ 2000) (hne : temp ≠ ambient) :
    (lossDrop ambient k temp).natAbs < ((temp : Int) - ambient).natAbs := by
  have scaled : ((temp : Int) - ambient).natAbs * k ≤ ((temp : Int) - ambient).natAbs * 2000 := Nat.mul_le_mul_left _ hk
  rw [natAbs_lossDrop]
  omega

theorem lossDrop_self (ambient k : Nat) : lossDrop ambient k ambient = 0 :=
  (lossDrop_eq_zero_iff ..).mpr (by simp)

theorem lossDrop_bounds_of_above {ambient k temp : Nat} (hk : k ≤ 2000) (h : ambient < temp) :
    0 ≤ lossDrop ambient k temp ∧ lossDrop ambient k temp < (temp : Int) - ambient := by
  have hsign := lossDrop_nonneg h.le k
  have hlt := natAbs_lossDrop_lt hk h.ne'
  omega

theorem lossDrop_bounds_of_below {ambient k temp : Nat} (hk : k ≤ 2000) (h : temp < ambient) :
    (temp : Int) - ambient < lossDrop ambient k temp ∧ lossDrop ambient k temp ≤ 0 := by
  have hsign := lossDrop_nonpos h.le k
  have hlt := natAbs_lossDrop_lt hk h.ne
  omega

theorem cast_clampTempInt {t : Int} (h0 : 0 ≤ t) (h1 : t ≤ 11000) : (clampTempInt t : Int) = t := by
  rw [clampTempInt, Config.maxTemp]
  omega

/-- The clamp of a cooled stratum never acts: what is left lies between the temperature and ambient (R68, R69). -/
theorem coolStratum_temp {ambient k : Nat} {x : Stratum} (hx : x.temp ≤ 11000) (ha : ambient ≤ 11000) (hk : k ≤ 2000) :
    ((coolStratum ambient k x).temp : Int) = (x.temp : Int) - lossDrop ambient k x.temp := by
  rcases lt_trichotomy ambient x.temp with habove | rfl | hbelow
  · have hdrop := lossDrop_bounds_of_above hk habove
    exact cast_clampTempInt (by omega) (by omega)
  · have hdrop := lossDrop_self x.temp k
    exact cast_clampTempInt (by omega) (by omega)
  · have hdrop := lossDrop_bounds_of_below hk hbelow
    exact cast_clampTempInt (by omega) (by omega)

/-- Settles O20: the drop has the sign of the distance to ambient and is smaller than it, so the clamp never acts and
each clause is arithmetic on the temperature less the drop. -/
theorem lossStepMovesTowardAmbient : Obligations.LossStepMovesTowardAmbient := by
  intro ambient k x hx ha hk
  have htemp := coolStratum_temp hx ha hk
  refine ⟨⟨rfl, rfl, rfl⟩, htemp, natAbs_lossDrop .., fun habove => ?above, fun hbelow => ?below, fun heq => ?level, ?still⟩
  case above =>
    have hdrop := lossDrop_bounds_of_above hk habove
    omega
  case below =>
    have hdrop := lossDrop_bounds_of_below hk hbelow
    omega
  case level =>
    rw [heq, lossDrop_self] at htemp
    omega
  case still =>
    rw [← lossDrop_eq_zero_iff]
    omega

end Sys2Proof.Machine
end

