-- ==== Sys2Proof/Proofs/Keepalive.lean ====
section
/-!
PROOF. Which of its three outcomes a handle compared with a port has (R42, R105), what a request on a configured port
comes to, and from them R105: a KEEPALIVE restarts the liveness timer of the grant it names and does nothing else.
-/

namespace Sys2Proof.Machine

/-! ### A handle compared with a port -/

theorem State.matchHandle_current {s : State} {p : PortId} {handle : Byte} {g : Grant} (hg : s.grant p = some g)
    (hh : g.handle = handle) : s.matchHandle p handle = .current g := by
  have named : (s.grant p).filter (·.handle = handle) = some g :=
    Option.filter_eq_some_iff.mpr ⟨hg, by simpa using hh⟩
  simp only [State.matchHandle, named]

theorem State.filter_grant_of_unnamed {s : State} {p : PortId} {handle : Byte}
    (hg : ∀ g, s.grant p = some g → g.handle ≠ handle) : (s.grant p).filter (·.handle = handle) = none :=
  Option.filter_eq_none_iff.mpr fun g h => by simpa using hg g h

theorem State.matchHandle_lastEnd {s : State} {p : PortId} {handle : Byte} {e : LastEnd}
    (hg : ∀ g, s.grant p = some g → g.handle ≠ handle) (he : (s.port p).lastEnd = some e) (hh : e.handle = handle) :
    s.matchHandle p handle = .lastEnd e.reason := by
  have named : (s.port p).lastEnd.filter (·.handle = handle) = some e :=
    Option.filter_eq_some_iff.mpr ⟨he, by simpa using hh⟩
  simp only [State.matchHandle, State.filter_grant_of_unnamed hg, named]

theorem State.matchHandle_neither {s : State} {p : PortId} {handle : Byte}
    (hg : ∀ g, s.grant p = some g → g.handle ≠ handle) (he : ∀ e, (s.port p).lastEnd = some e → e.handle ≠ handle) :
    s.matchHandle p handle = .neither := by
  have unnamed : (s.port p).lastEnd.filter (·.handle = handle) = none :=
    Option.filter_eq_none_iff.mpr fun e h => by simpa using he e h
  simp only [State.matchHandle, State.filter_grant_of_unnamed hg, unnamed]

/-! ### A request on a port's channel -/

section
variable {s : State} {p : PortId} (f : PortId → PortConfig → Store → State → Reply)

theorem State.onConfiguredPort_withoutStore (hst : s.store = none) :
    s.onConfiguredPort (BitVec.ofNat 3 p.number) f = s.answer .notConfigured := by
  simp only [State.onConfiguredPort, State.onPort, (PortId.channel p).2.2, State.onStore, hst]

theorem State.onConfiguredPort_ofKindNone (hst : s.store ≠ none) (hc : (s.port p).config = none) :
    s.onConfiguredPort (BitVec.ofNat 3 p.number) f = s.answer .noPort := by
  obtain ⟨st, hst⟩ := Option.ne_none_iff_exists'.mp hst
  simp only [State.onConfiguredPort, State.onPort, (PortId.channel p).2.2, State.onStore, hst, hc]

theorem State.onConfiguredPort_configured {c : PortConfig} (hst : s.store ≠ none) (hc : (s.port p).config = some c) :
    s.onConfiguredPort (BitVec.ofNat 3 p.number) f = f p c (s.store.get (Option.isSome_iff_ne_none.mpr hst)) s := by
  obtain ⟨st, hst⟩ := Option.ne_none_iff_exists'.mp hst
  simp only [State.onConfiguredPort, State.onPort, (PortId.channel p).2.2, State.onStore, hst, hc, Option.get_some]

end

/-! ### KEEPALIVE -/

theorem State.restartLiveness_of_grant {s : State} {p : PortId} {g : Grant} (hg : s.grant p = some g) (c : PortConfig) :
    s.restartLiveness p c = { s with arbiter := { s.arbiter with
      grants := s.arbiter.grants.set p (some { g with liveness := c.liveness * Config.second }) } } := by
  have held : s.arbiter.grants.get p = some g := hg
  simp only [State.restartLiveness, State.changeGrant, Arbiter.changeGrant, held, Option.map_some]

section
variable {s : State} {p : PortId} {c : PortConfig} {p0 : Byte}

theorem State.keepaliveRequest_current {g : Grant} (hst : s.store ≠ none) (hc : (s.port p).config = some c)
    (hm : s.matchHandle p p0 = .current g) :
    s.keepaliveRequest (BitVec.ofNat 3 p.number) p0 = (s.restartLiveness p c).answer .ok g.state.code := by
  simp only [State.keepaliveRequest, State.onConfiguredPort_configured _ hst hc, hm]

theorem State.keepaliveRequest_lastEnd {r : Reason} (hst : s.store ≠ none) (hc : (s.port p).config = some c)
    (hm : s.matchHandle p p0 = .lastEnd r) :
    s.keepaliveRequest (BitVec.ofNat 3 p.number) p0 = s.answer .ended r.code := by
  simp only [State.keepaliveRequest, State.onConfiguredPort_configured _ hst hc, hm]

theorem State.keepaliveRequest_neither (hst : s.store ≠ none) (hc : (s.port p).config = some c)
    (hm : s.matchHandle p p0 = .neither) : s.keepaliveRequest (BitVec.ofNat 3 p.number) p0 = s.answer .stale := by
  simp only [State.keepaliveRequest, State.onConfiguredPort_configured _ hst hc, hm]

end

theorem exec_keepalive (ch : Channel) (p0 p1 : Byte) (s : State) :
    exec (.keepalive ch p0 p1) s = .next (s.shortRequest 6 ch p0 p1 (State.keepaliveRequest ch p0)) := rfl

/-- A KEEPALIVE that is taken sends its reply as a short answer (R169, R170). -/
theorem exec_keepalive_of_reply {s t u : State} {p : PortId} {p0 p1 : Byte} {status : Status} {value : Nat}
    (h : s.Taking ⟨6, BitVec.ofNat 3 p.number, .short p0 p1⟩ t)
    (hr : t.keepaliveRequest (BitVec.ofNat 3 p.number) p0 = u.answer status value) :
    exec (.keepalive (BitVec.ofNat 3 p.number) p0 p1) s = .next (u.sent (shortAnswer 6 (BitVec.ofNat 3 p.number)
      (BitVec.ofNat 8 status.code) (BitVec.ofNat 8 value))) := by
  rw [exec_keepalive, State.shortRequest_port 6 (by decide) h, hr]
  rfl

/-- The byte sent for a grant's state, by its class (R88, R172). -/
theorem Grant.stateByte (g : Grant) :
    BitVec.ofNat 8 g.state.code = match g.cls with
      | .mustTake held => if held then 2 else 1 | .normal n => if n.suspended then 3 else 1 | .hygiene => 1 := by
  rw [Grant.state]
  cases g.cls with
  | mustTake held => cases held <;> rfl
  | normal n => rcases n with ⟨_, _, _, _ | _⟩ <;> rfl
  | hygiene => rfl

/-- Settles O29: past the checks of the store and the port, each clause is one outcome of the comparison of the handle,
and only the first changes the state. -/
theorem keepaliveComparesTheHandle : Obligations.KeepaliveComparesTheHandle := by
  intro s t p p0 p1 h
  refine ⟨fun hst => ?noStore, fun hst hc => ?noPort, fun c g hst hc hg hh => ?current,
    fun c e hst hc hg he hh => ?lastEnd, fun c hst hc hg he => ?neither⟩
  case noStore => exact exec_keepalive_of_reply h (State.onConfiguredPort_withoutStore _ hst)
  case noPort => exact exec_keepalive_of_reply h (State.onConfiguredPort_ofKindNone _ hst hc)
  case current =>
    have sent := exec_keepalive_of_reply h (State.keepaliveRequest_current hst hc (State.matchHandle_current hg hh))
    rw [State.restartLiveness_of_grant hg, Grant.stateByte] at sent
    exact sent
  case lastEnd =>
    exact exec_keepalive_of_reply h (State.keepaliveRequest_lastEnd hst hc (State.matchHandle_lastEnd hg he hh))
  case neither =>
    exact exec_keepalive_of_reply h (State.keepaliveRequest_neither hst hc (State.matchHandle_neither hg he))

end Sys2Proof.Machine
end

