-- ==== Sys2Proof/Proofs/Identify.lean ====
section
/-!
PROOF. What an IDENTIFY comes to on every channel but 7, and the ten bytes of its answer, and from them R173: it is
answered in every store mode and changes nothing but the bytes sent.
-/

namespace Sys2Proof.Machine

/-- IDENTIFY's answer is long on every channel but 7 (R168). -/
theorem Message.longAnswer_identify {ch : Channel} (hch : ch ≠ 7) (p0 p1 : Byte) :
    Message.longAnswer ⟨0, ch, .short p0 p1⟩ = true :=
  bne_iff_ne.mpr hch

/-- An IDENTIFY taken: its owner's reply, sent as a long answer (R167 to R170). -/
theorem State.shortRequest_identify {s t : State} {ch : Channel} {p0 p1 : Byte}
    (h : s.Taking ⟨0, ch, .short p0 p1⟩ t) (hch : ch ≠ 7) (owner : State → Reply)
    (hb : (owner t).answer.body.length < 65534) :
    s.shortRequest 0 ch p0 p1 owner = (owner t).state.sent (longAnswer 0 ch
      (BitVec.ofNat 8 (owner t).answer.status.code) (BitVec.ofNat 8 (owner t).answer.value) (owner t).answer.body) := by
  have passed : Message.failedCheck ⟨0, ch, .short p0 p1⟩ = none := by rw [failedCheck_identify, if_neg hch]
  calc s.shortRequest 0 ch p0 p1 owner
    _ = t.handle ⟨0, ch, .short p0 p1⟩ owner := State.request_taken h owner
    _ = (owner t).state.send ⟨0, ch, .short p0 p1⟩ (owner t).answer := State.handle_passed passed owner
    _ = _ := State.send_long (Message.longAnswer_identify hch p0 p1) _ _ hb

/-- The ten bytes of IDENTIFY's body, the last one the store mode's code (R173). -/
theorem State.identifyRequest_eq (s : State) :
    s.identifyRequest = s.answer .ok 0 [0x3A, 0x78, 0x02, 1, 32, 6, 8, 4, 2, BitVec.ofNat 8 s.mode.code] := rfl

/-- The byte sent for a store mode (R172). -/
theorem Mode.codeByte (m : Mode) :
    BitVec.ofNat 8 m.code = match m with | .unconfigured => 0 | .running => 1 | .holiday => 2 := by
  cases m <;> rfl

theorem exec_identify (ch : Channel) (p0 p1 : Byte) (s : State) :
    exec (.identify ch p0 p1) s = .next (s.shortRequest 0 ch p0 p1 State.identifyRequest) := rfl

/-- Settles O16: an IDENTIFY passes the checks on every channel but 7, and its owner's reply leaves the state as it is and
has the ten bytes as its body. -/
theorem identifyAnswersInEveryMode : Obligations.IdentifyAnswersInEveryMode := by
  intro s t ch p0 p1 h hch
  have short : t.identifyRequest.answer.body.length < 65534 := (by decide : 10 < 65534)
  rw [exec_identify, State.shortRequest_identify h hch _ short, State.identifyRequest_eq, Mode.codeByte]
  rfl

end Sys2Proof.Machine
end

