-- ==== Sys2Proof/Proofs/NoticeRequests.lean ====
section
/-!
PROOF. The two operations of the Notice Register a request asks for, flag by flag, and the level of ATTN either leaves; and
from them R182: what NOTICES and NOTICE_ENABLE answer and all they change.
-/

namespace Sys2Proof.Machine

/-! ### The mask of two parameter bytes -/

/-- The low byte holds bits 0 to 7 of the mask and the high byte bits 8 to 15. -/
theorem getLsbD_mask16 (lo hi : Byte) (i : Nat) :
    (mask16 lo hi).getLsbD i = if i < 8 then lo.getLsbD i else hi.getLsbD (i - 8) := by
  rw [mask16, BitVec.getLsbD_append]

theorem toNat_mask16 (lo hi : Byte) : (mask16 lo hi).toNat = lo.toNat + 256 * hi.toNat :=
  calc (mask16 lo hi).toNat
    _ = hi.toNat <<< 8 ||| lo.toNat := BitVec.toNat_append hi lo
    _ = 2 ^ 8 * hi.toNat + lo.toNat := by
      rw [Nat.shiftLeft_eq, Nat.mul_comm, Nat.two_pow_add_eq_or_of_lt lo.isLt]
    _ = lo.toNat + 256 * hi.toNat := Nat.add_comm _ _

/-! ### The Notice Register -/

section
variable (r : NoticeRegister) (word : BitVec 16)

@[simp] theorem NoticeRegister.clear_flags : (r.clear word).flags = r.flags &&& ~~~word := rfl
@[simp] theorem NoticeRegister.clear_mask : (r.clear word).mask = r.mask := rfl
@[simp] theorem NoticeRegister.enable_flags : (r.enable word).flags = r.flags := rfl
@[simp] theorem NoticeRegister.enable_mask : (r.enable word).mask = word := rfl

/-- A flag stands after a clear exactly where it stood and the clear mask leaves it out (R182). -/
theorem NoticeRegister.getLsbD_clear_flags (i : Nat) :
    (r.clear word).flags.getLsbD i = (r.flags.getLsbD i && !word.getLsbD i) := by
  by_cases hi : i < 16
  · simp [hi]
  · simp [BitVec.getLsbD_of_ge r.flags i (Nat.le_of_not_lt hi)]

/-- ATTN re-evaluated is low exactly when a flag is both set and enabled (R181). -/
theorem NoticeRegister.reevaluate_attnLow :
    r.reevaluate.attnLow = true ↔ r.reevaluate.flags &&& r.reevaluate.mask ≠ 0 :=
  bne_iff_ne

theorem NoticeRegister.clear_attnLow :
    (r.clear word).attnLow = true ↔ (r.clear word).flags &&& (r.clear word).mask ≠ 0 :=
  NoticeRegister.reevaluate_attnLow _

theorem NoticeRegister.enable_attnLow :
    (r.enable word).attnLow = true ↔ (r.enable word).flags &&& (r.enable word).mask ≠ 0 :=
  NoticeRegister.reevaluate_attnLow _

end

/-! ### The two requests, taken -/

theorem exec_notices (ch : Channel) (p0 p1 : Byte) (s : State) :
    exec (.notices ch p0 p1) s = .next (s.shortRequest 12 ch p0 p1 (State.noticesRequest p0 p1)) := rfl

theorem exec_noticeEnable (ch : Channel) (p0 p1 : Byte) (s : State) :
    exec (.noticeEnable ch p0 p1) s = .next (s.shortRequest 13 ch p0 p1 (State.noticeEnableRequest p0 p1)) := rfl

section
variable {s t : State} {p0 p1 : Byte}

/-- A NOTICES that is taken clears by its mask and answers the register as it stood before (R182). -/
theorem exec_notices_of_taking (h : s.Taking ⟨12, 0, .short p0 p1⟩ t) :
    exec (.notices 0 p0 p1) s = .next (State.sent { t with notices := t.notices.clear (mask16 p0 p1) }
      (longAnswer 12 0 0 0 (le 2 t.notices.flags.toNat ++ le 2 t.notices.mask.toNat))) := by
  have short : (State.noticesRequest p0 p1 t).answer.body.length < 65534 := (by decide : 4 < 65534)
  rw [exec_notices, State.shortRequest_longAnswer 12 (by decide) h _ short]
  rfl

/-- A NOTICE_ENABLE that is taken replaces the enable mask and answers status OK, value 0 (R182). -/
theorem exec_noticeEnable_of_taking (h : s.Taking ⟨13, 0, .short p0 p1⟩ t) :
    exec (.noticeEnable 0 p0 p1) s = .next (State.sent { t with notices := t.notices.enable (mask16 p0 p1) }
      (shortAnswer 13 0 0 0)) := by
  rw [exec_noticeEnable, State.shortRequest_supervisor 13 (by decide) h]
  rfl

end

/-- Settles O38: each request is its one operation on the register, which pins every flag, the enable mask and ATTN. -/
theorem noticesReadsAndClears : Obligations.NoticesReadsAndClears := by
  intro s t p0 p1
  constructor
  case left =>
    intro h
    refine ⟨t.notices.clear (mask16 p0 p1), exec_notices_of_taking h, fun i => ?_, t.notices.clear_mask _,
      t.notices.clear_attnLow _⟩
    rw [NoticeRegister.getLsbD_clear_flags, getLsbD_mask16]
  case right =>
    intro h
    refine ⟨t.notices.enable (mask16 p0 p1), exec_noticeEnable_of_taking h, t.notices.enable_flags _, ?_,
      t.notices.enable_attnLow _⟩
    rw [NoticeRegister.enable_mask, toNat_mask16]

end Sys2Proof.Machine
end

section
/-!
PROOF. What merges, normalization, making room, cuts and insertions leave of the records of a list (chapter 2): the bounds a
mix keeps, the properties that a merge hands on, and from them the statements about the list alone.
-/

namespace Sys2Proof.Machine

/-! ### Rounding and mixing -/

theorem roundDiv_le {n d hi : Nat} (hd : 0 < d) (h : n ≤ hi * d) : roundDiv n d ≤ hi := by
  refine Nat.lt_succ_iff.mp ((Nat.div_lt_iff_lt_mul (by omega)).mpr ?_)
  calc 2 * n + d
    _ < 2 * (hi * d) + 2 * d := by omega
    _ = hi.succ * (2 * d) := by rw [Nat.succ_eq_add_one]; ring

theorem le_roundDiv {n d lo : Nat} (hd : 0 < d) (h : lo * d ≤ n) : lo ≤ roundDiv n d := by
  refine (Nat.le_div_iff_mul_le (by omega)).mpr ?_
  calc lo * (2 * d)
    _ = 2 * (lo * d) := by ring
    _ ≤ 2 * n + d := by omega

/-- A list that is nowhere warmer than a bound holds no more heat than at the bound. -/
theorem heatOf_le {hi : Nat} : ∀ {l : List Stratum}, (∀ x ∈ l, x.temp ≤ hi) → heatOf l ≤ hi * volumeOf l
  | [], _ => by simp
  | s :: l, h => by
    obtain ⟨hs, hl⟩ := List.forall_mem_cons.mp h
    calc heatOf (s :: l)
      _ = s.temp * s.volume + heatOf l := by rw [heatOf_cons, Nat.mul_comm]
      _ ≤ hi * s.volume + hi * volumeOf l := Nat.add_le_add (Nat.mul_le_mul_right _ hs) (heatOf_le hl)
      _ = hi * volumeOf (s :: l) := by rw [volumeOf_cons, Nat.mul_add]

theorem le_heatOf {lo : Nat} : ∀ {l : List Stratum}, (∀ x ∈ l, lo ≤ x.temp) → lo * volumeOf l ≤ heatOf l
  | [], _ => by simp
  | s :: l, h => by
    obtain ⟨hs, hl⟩ := List.forall_mem_cons.mp h
    calc lo * volumeOf (s :: l)
      _ = lo * s.volume + lo * volumeOf l := by rw [volumeOf_cons, Nat.mul_add]
      _ ≤ s.temp * s.volume + heatOf l := Nat.add_le_add (Nat.mul_le_mul_right _ hs) (le_heatOf hl)
      _ = heatOf (s :: l) := by rw [heatOf_cons, Nat.mul_comm]

theorem clampTemp_of_le {t : Nat} (h : t ≤ 11000) : clampTemp t = t := Nat.min_eq_left h

theorem clampTemp_le (t : Nat) : clampTemp t ≤ 11000 := Nat.min_le_right _ _

theorem clampTempInt_le (t : Int) : clampTempInt t ≤ 11000 := Nat.min_le_right _ _

/-- The mean of a merge before the clamp of R1 lies between the two temperatures. -/
theorem mergePair_mean_bounds {lo hi : Nat} {a b : Stratum} (hv : 1 ≤ a.volume) (ha : lo ≤ a.temp ∧ a.temp ≤ hi)
    (hb : lo ≤ b.temp ∧ b.temp ≤ hi) :
    lo ≤ roundDiv (a.volume * a.temp + b.volume * b.temp) (a.volume + b.volume)
      ∧ roundDiv (a.volume * a.temp + b.volume * b.temp) (a.volume + b.volume) ≤ hi := by
  have heat : heatOf [a, b] = a.volume * a.temp + b.volume * b.temp := by simp
  have vol : volumeOf [a, b] = a.volume + b.volume := by simp
  rw [← heat, ← vol]
  constructor
  · exact le_roundDiv (by omega) (le_heatOf (by simp [ha.1, hb.1]))
  · exact roundDiv_le (by omega) (heatOf_le (by simp [ha.2, hb.2]))

theorem mergePair_temp {a b : Stratum} (hv : 1 ≤ a.volume) (ha : a.temp ≤ 11000) (hb : b.temp ≤ 11000) :
    (mergePair a b).temp = roundDiv (a.volume * a.temp + b.volume * b.temp) (a.volume + b.volume) :=
  clampTemp_of_le (mergePair_mean_bounds hv ⟨Nat.zero_le _, ha⟩ ⟨Nat.zero_le _, hb⟩).2

/-! ### What every record of a list keeps -/

/-- A property of records that a merge of two neighbours hands on. -/
def MergeClosed (Q : Stratum → Prop) : Prop := ∀ a b, Q a → Q b → Q (mergePair a b)

section
variable {Q : Stratum → Prop} (hQ : MergeClosed Q)
include hQ

theorem mergeInBand_forall {band : Nat} : ∀ {l m : List Stratum}, mergeInBand band l = some m → (∀ x ∈ l, Q x) →
    ∀ x ∈ m, Q x
  | [], _, h, _ => by simp [mergeInBand] at h
  | [_], _, h, _ => by simp [mergeInBand] at h
  | a :: b :: rest, m, h, hl => by
    simp only [List.forall_mem_cons] at hl
    obtain ⟨ha, hb, hr⟩ := hl
    simp only [mergeInBand] at h
    split at h
    · cases h
      exact List.forall_mem_cons.mpr ⟨hQ a b ha hb, hr⟩
    · obtain ⟨k, hk, rfl⟩ := Option.map_eq_some_iff.mp h
      exact List.forall_mem_cons.mpr ⟨ha, mergeInBand_forall hk (List.forall_mem_cons.mpr ⟨hb, hr⟩)⟩

theorem mergeThinAbove_forall {minVolume : Nat} : ∀ {below : Stratum} {l m : List Stratum},
    mergeThinAbove minVolume below l = some m → Q below → (∀ x ∈ l, Q x) → ∀ x ∈ m, Q x
  | _, [], _, h, _, _ => by simp [mergeThinAbove] at h
  | below, [c], m, h, hs, hl => by
    simp only [mergeThinAbove] at h
    split at h
    · cases h
      simpa using hQ below c hs (hl c (by simp))
    · cases h
  | below, c :: d :: rest, m, h, hs, hl => by
    simp only [List.forall_mem_cons] at hl
    obtain ⟨hc, hd, hr⟩ := hl
    simp only [mergeThinAbove] at h
    split at h
    · split at h <;> cases h
      · exact List.forall_mem_cons.mpr ⟨hs, List.forall_mem_cons.mpr ⟨hQ c d hc hd, hr⟩⟩
      · exact List.forall_mem_cons.mpr ⟨hQ below c hs hc, List.forall_mem_cons.mpr ⟨hd, hr⟩⟩
    · obtain ⟨k, hk, rfl⟩ := Option.map_eq_some_iff.mp h
      exact List.forall_mem_cons.mpr ⟨hs, mergeThinAbove_forall hk hc (List.forall_mem_cons.mpr ⟨hd, hr⟩)⟩

theorem mergeThin_forall {minVolume : Nat} : ∀ {l m : List Stratum}, mergeThin minVolume l = some m → (∀ x ∈ l, Q x) →
    ∀ x ∈ m, Q x
  | [], _, h, _ => by simp [mergeThin] at h
  | [_], _, h, _ => by simp [mergeThin] at h
  | a :: b :: rest, m, h, hl => by
    simp only [mergeThin] at h
    obtain ⟨ha, hbr⟩ := List.forall_mem_cons.mp hl
    obtain ⟨hb, hr⟩ := List.forall_mem_cons.mp hbr
    split at h
    · cases h
      exact List.forall_mem_cons.mpr ⟨hQ a b ha hb, hr⟩
    · exact mergeThinAbove_forall hQ h ha hbr

theorem normalizeOnce_forall {band minVolume : Nat} {l m : List Stratum} (h : normalizeOnce band minVolume l = some m)
    (hl : ∀ x ∈ l, Q x) : ∀ x ∈ m, Q x := by
  unfold normalizeOnce at h
  split at h
  · next k hk =>
    cases h
    exact mergeInBand_forall hQ hk hl
  · exact mergeThin_forall hQ h hl

theorem normalizeUpTo_forall {band minVolume : Nat} : ∀ (n : Nat) (l : List Stratum), (∀ x ∈ l, Q x) →
    ∀ x ∈ normalizeUpTo band minVolume n l, Q x
  | 0, _, hl => hl
  | n + 1, l, hl => by
    unfold normalizeUpTo
    split
    · next m hm => exact normalizeUpTo_forall n m (normalizeOnce_forall hQ hm hl)
    · exact hl

/-- Normalization hands on what a merge hands on. -/
theorem normalize_forall (band minVolume : Nat) {l : List Stratum} (hl : ∀ x ∈ l, Q x) :
    ∀ x ∈ normalize band minVolume l, Q x :=
  normalizeUpTo_forall hQ _ l hl

theorem mergeAtRise_forall (r : Int) : ∀ {l : List Stratum}, (∀ x ∈ l, Q x) → ∀ x ∈ mergeAtRise r l, Q x
  | [], hl => hl
  | [_], hl => hl
  | a :: b :: rest, hl => by
    obtain ⟨ha, hbr⟩ := List.forall_mem_cons.mp hl
    obtain ⟨hb, hr⟩ := List.forall_mem_cons.mp hbr
    unfold mergeAtRise
    split
    · exact List.forall_mem_cons.mpr ⟨hQ a b ha hb, hr⟩
    · exact List.forall_mem_cons.mpr ⟨ha, mergeAtRise_forall r hbr⟩

theorem forcedMerge_forall {l : List Stratum} (hl : ∀ x ∈ l, Q x) : ∀ x ∈ forcedMerge l, Q x := by
  unfold forcedMerge
  split
  · exact mergeAtRise_forall hQ _ hl
  · exact hl

theorem makeRoomUpTo_forall (most : Nat) : ∀ (n : Nat) {l : List Stratum}, (∀ x ∈ l, Q x) →
    ∀ x ∈ (makeRoomUpTo most n l).1, Q x
  | 0, _, hl => hl
  | n + 1, l, hl => by
    unfold makeRoomUpTo
    split
    · exact makeRoomUpTo_forall most n (forcedMerge_forall hQ hl)
    · exact hl

/-- Making room hands on what a merge hands on. -/
theorem makeRoom_forall (n : Nat) {l : List Stratum} (hl : ∀ x ∈ l, Q x) : ∀ x ∈ (makeRoom n l).1, Q x :=
  makeRoomUpTo_forall hQ _ _ hl

end

theorem changeAt_forall {Q : Stratum → Prop} (f : Stratum → Stratum) (hf : ∀ x, Q x → Q (f x)) :
    ∀ (h : Nat) (l : List Stratum), (∀ x ∈ l, Q x) → ∀ x ∈ changeAt f h l, Q x
  | _, [], hl => hl
  | _, [s], hl => by simpa [changeAt] using hf s (hl s (by simp))
  | h, s :: t :: rest, hl => by
    obtain ⟨hs, hr⟩ := List.forall_mem_cons.mp hl
    unfold changeAt
    split
    · exact List.forall_mem_cons.mpr ⟨hf s hs, hr⟩
    · exact List.forall_mem_cons.mpr ⟨hs, changeAt_forall f hf (h - s.volume) (t :: rest) hr⟩

theorem insertByTemp_forall {Q : Stratum → Prop} {new : Stratum} (hn : Q new) : ∀ {l : List Stratum}, (∀ x ∈ l, Q x) →
    ∀ x ∈ insertByTemp new l, Q x
  | [], _ => by simpa [insertByTemp] using hn
  | s :: rest, hl => by
    obtain ⟨hs, hr⟩ := List.forall_mem_cons.mp hl
    unfold insertByTemp
    split
    · exact List.forall_mem_cons.mpr ⟨hn, hl⟩
    · exact List.forall_mem_cons.mpr ⟨hs, insertByTemp_forall hn hr⟩

/-- Each record of a cut is a part of a record of the list, with that record's other fields (R24). -/
theorem mem_cut : ∀ (h : Nat) (l : List Stratum), ∀ x ∈ (cut h l).1 ++ (cut h l).2,
    ∃ y ∈ l, x.volume ≤ y.volume ∧ x.temp = y.temp ∧ x.age = y.age ∧ x.dwell = y.dwell
  | _, [], x, hx => by simp [cut] at hx
  | h, s :: rest, x, hx => by
    unfold cut at hx
    split at hx
    · exact ⟨x, by simpa using hx, Nat.le_refl _, rfl, rfl, rfl⟩
    · split at hx
      · rcases List.mem_cons.mp hx with rfl | hx
        · exact ⟨x, by simp, Nat.le_refl _, rfl, rfl, rfl⟩
        · obtain ⟨y, hy, fields⟩ := mem_cut (h - s.volume) rest x hx
          exact ⟨y, by simp [hy], fields⟩
      · simp only [List.cons_append, List.nil_append, List.mem_cons] at hx
        rcases hx with rfl | rfl | hx
        · exact ⟨s, by simp, by dsimp only; omega, rfl, rfl, rfl⟩
        · exact ⟨s, by simp, by dsimp only; omega, rfl, rfl, rfl⟩
        · exact ⟨x, by simp [hx], Nat.le_refl _, rfl, rfl, rfl⟩

end Sys2Proof.Machine
end

section
/-!
PROOF. The merge that normalization makes next, by the place of the pair in the list, and from it the statement that it
merges in its order, ends normal and keeps the volume (R27 to R29).
-/

namespace Sys2Proof.Machine

/-! ### The next merge -/

theorem normalize_of_merge {band minVolume : Nat} {l m : List Stratum} (h : normalizeOnce band minVolume l = some m) :
    normalize band minVolume l = normalize band minVolume m := by
  have hlen := (normalizeOnce_some h).2
  rw [normalize, ← hlen, normalizeUpTo, h]
  rfl

theorem normalize_of_normal {band minVolume : Nat} {l : List Stratum} (h : NormalList band minVolume l) :
    normalize band minVolume l = l := by
  have hn : normalizeOnce band minVolume l = none := normalizeOnce_none.mpr h
  rw [normalize]
  cases l.length with
  | zero => rfl
  | succ n => simp only [normalizeUpTo, hn]

/-- The lowest pair within the band is the one merged (R27). -/
theorem mergeInBand_append {band : Nat} {a b : Stratum} {above : List Stratum} (hb : b.temp ≤ a.temp + band) :
    ∀ below : List Stratum, Rising band (below ++ [a]) →
      mergeInBand band (below ++ a :: b :: above) = some (below ++ mergePair a b :: above)
  | [], _ => by simp [mergeInBand, hb]
  | [x], hr => by
    have hx : ¬a.temp ≤ x.temp + band := Nat.not_le.mpr hr.1
    simp [mergeInBand, hx, hb]
  | x :: y :: below, hr => by
    have hx : ¬y.temp ≤ x.temp + band := Nat.not_le.mpr hr.1
    have ih := mergeInBand_append (above := above) hb (y :: below) hr.2
    simp only [List.cons_append] at ih ⊢
    simp only [mergeInBand, hx, if_false, ih, Option.map_some]

theorem normalizeOnce_of_rising {band minVolume : Nat} {l : List Stratum} (h : Rising band l) :
    normalizeOnce band minVolume l = mergeThin minVolume l := by
  simp only [normalizeOnce, mergeInBand_none.mpr h]

/-- A stratum that is not thin is passed over (R28). -/
theorem mergeThin_cons_thick {minVolume : Nat} {x : Stratum} (hx : minVolume ≤ x.volume) (l : List Stratum) :
    mergeThin minVolume (x :: l) = mergeThinAbove minVolume x l := by
  cases l with
  | nil => rfl
  | cons y l => simp only [mergeThin, if_neg (Nat.not_lt.mpr hx)]

theorem mergeThinAbove_cons_thick {minVolume : Nat} {x y : Stratum} (hy : minVolume ≤ y.volume) (l : List Stratum) :
    mergeThinAbove minVolume x (y :: l) = (mergeThinAbove minVolume y l).map (x :: ·) := by
  cases l with
  | nil => simp only [mergeThinAbove, if_neg (Nat.not_lt.mpr hy), Option.map_none]
  | cons z l => simp only [mergeThinAbove, if_neg (Nat.not_lt.mpr hy)]

theorem mergeThinAbove_append {minVolume : Nat} {a : Stratum} (t : List Stratum) (ha : minVolume ≤ a.volume) :
    ∀ (below : List Stratum) (x : Stratum), (∀ y ∈ below, minVolume ≤ y.volume) →
      mergeThinAbove minVolume x (below ++ a :: t) = (mergeThinAbove minVolume a t).map (x :: below ++ ·)
  | [], x, _ => mergeThinAbove_cons_thick ha t
  | y :: below, x, h => by
    obtain ⟨hy, hb⟩ := List.forall_mem_cons.mp h
    rw [List.cons_append, mergeThinAbove_cons_thick hy, mergeThinAbove_append t ha below y hb, Option.map_map]
    rfl

/-- The second step looks for a thin stratum above those that are not (R28). -/
theorem mergeThin_append {minVolume : Nat} {below : List Stratum} {a : Stratum} (t : List Stratum)
    (h : ∀ x ∈ below ++ [a], minVolume ≤ x.volume) :
    mergeThin minVolume (below ++ a :: t) = (mergeThinAbove minVolume a t).map (below ++ ·) := by
  have ha : minVolume ≤ a.volume := h a (by simp)
  cases below with
  | nil =>
    rw [List.nil_append, mergeThin_cons_thick ha]
    exact Option.map_id'.symm
  | cons x below =>
    rw [List.cons_append, mergeThin_cons_thick (h x (by simp)),
      mergeThinAbove_append t ha below x fun y hy => h y (by simp [hy])]

/-- The part of a rising list from a given stratum on rises too (R29). -/
theorem Rising.of_append {band : Nat} : ∀ {below l : List Stratum}, Rising band (below ++ l) → Rising band l
  | [], _, h => h
  | [_], [], _ => trivial
  | [_], _ :: _, h => h.2
  | _ :: y :: below, _, h => Rising.of_append (below := y :: below) h.2

/-- A thin stratum between two others is merged with the nearer in temperature, the one above on a tie (R28). -/
theorem mergeThinAbove_between {minVolume band : Nat} {a b c : Stratum} {above : List Stratum}
    (hr : Rising band (a :: b :: c :: above)) (hb : b.volume < minVolume) :
    mergeThinAbove minVolume a (b :: c :: above)
      = some (if c.temp - b.temp ≤ b.temp - a.temp then a :: mergePair b c :: above else mergePair a b :: c :: above) := by
  obtain ⟨hab, hbc, -⟩ := hr
  have gapUp : tempGap b c = c.temp - b.temp := by rw [tempGap]; omega
  have gapDown : tempGap a b = b.temp - a.temp := by rw [tempGap]; omega
  simp only [mergeThinAbove, if_pos hb, gapUp, gapDown]
  split <;> rfl

/-- Settles O25: each clause about an order names the merge that one step of normalization makes, and the rest is what
every merge keeps. -/
theorem normalizationMergesInOrder : Obligations.NormalizationMergesInOrder := by
  refine ⟨fun a b hv ha hb => ?merge, fun band v below above a b hr hb => ?inBand, fun band v above a b hr ha => ?bottom,
    fun band v below above a b c hr hthick hb => ?middle, fun band v below a b hr hthick hb => ?top,
    fun band v l h => normalize_of_normal h, fun band v l => ?ends, fun band v lo hi l hhi hl => ?bounds⟩
  case merge =>
    have hm := mergePair_temp hv ha hb
    rw [roundDiv] at hm
    rw [← hm]
    rfl
  case inBand =>
    have hm := mergeInBand_append (above := above) hb below hr
    exact normalize_of_merge (by simp only [normalizeOnce, hm])
  case bottom =>
    refine normalize_of_merge ?_
    rw [normalizeOnce_of_rising hr]
    simp only [mergeThin, if_pos ha]
  case middle =>
    have hm : normalizeOnce band v (below ++ a :: b :: c :: above) = some (below ++
        if c.temp - b.temp ≤ b.temp - a.temp then a :: mergePair b c :: above else mergePair a b :: c :: above) := by
      rw [normalizeOnce_of_rising hr, mergeThin_append _ hthick, mergeThinAbove_between hr.of_append hb]
      rfl
    constructor
    · intro hup
      rw [normalize_of_merge hm, if_pos hup]
    · intro hdown
      rw [normalize_of_merge hm, if_neg (Nat.not_le.mpr hdown)]
  case top =>
    refine normalize_of_merge ?_
    rw [normalizeOnce_of_rising hr, mergeThin_append _ hthick]
    simp only [mergeThinAbove, if_pos hb, Option.map_some]
  case ends =>
    obtain ⟨hvol, -, -, hnormal⟩ := normalize_spec band v l
    exact ⟨hnormal, hvol⟩
  case bounds =>
    refine normalize_forall (fun a b ha hb => ?_) band v hl
    obtain ⟨hva, hla, hha⟩ := ha
    obtain ⟨-, hlb, hhb⟩ := hb
    rw [mergePair_temp hva (hha.trans hhi) (hhb.trans hhi), mergePair_volume]
    exact ⟨by omega, mergePair_mean_bounds hva ⟨hla, hha⟩ ⟨hlb, hhb⟩⟩

end Sys2Proof.Machine
end

section
/-!
PROOF. The stratum at a height on either side of a cut, the pair a forced merge joins, and the summaries of a list; and from
them that cuts and making room keep the water (R24, R25, R30, R31) and what the lookups read (R4, R11 to R16).
-/

namespace Sys2Proof.Machine

/-! ### Cuts -/

/-- Below a cut the list reads as it did. -/
theorem stratumAt_cut_below : ∀ (h z : Nat) (l : List Stratum), h ≤ volumeOf l → z < h →
    (stratumAt z (cut h l).1).map (·.temp) = (stratumAt z l).map (·.temp)
  | h, z, [], hh, hz => by simp at hh; omega
  | h, z, s :: rest, hh, hz => by
    rw [volumeOf_cons] at hh
    unfold cut
    split
    · omega
    · split
      · next hs =>
        rcases Nat.lt_or_ge z s.volume with hzs | hzs
        · rw [stratumAt_bottom _ hzs, stratumAt_bottom _ hzs]
        · have vol := (cut_spec (h - s.volume) rest (by omega)).1
          have left : (cut (h - s.volume) rest).1 ≠ [] := by
            intro he
            rw [he, volumeOf_nil] at vol
            omega
          have right : rest ≠ [] := by
            rintro rfl
            rw [volumeOf_nil] at hh
            omega
          rw [stratumAt_above hzs left, stratumAt_above hzs right]
          exact stratumAt_cut_below (h - s.volume) (z - s.volume) rest (by omega) (by omega)
      · rw [stratumAt_bottom rest (by omega), stratumAt_bottom [] (by exact hz)]
        rfl

/-- Above a cut the list reads as it did, from the height of the cut. -/
theorem stratumAt_cut_above : ∀ (h z : Nat) (l : List Stratum), h ≤ z → z < volumeOf l →
    (stratumAt (z - h) (cut h l).2).map (·.temp) = (stratumAt z l).map (·.temp)
  | h, z, [], _, hz => by simp at hz
  | h, z, s :: rest, hh, hz => by
    rw [volumeOf_cons] at hz
    unfold cut
    split
    · next h0 => rw [h0, Nat.sub_zero]
    · split
      · next hs =>
        have right : rest ≠ [] := by
          rintro rfl
          rw [volumeOf_nil] at hz
          omega
        have ih := stratumAt_cut_above (h - s.volume) (z - s.volume) rest (by omega) (by omega)
        rw [stratumAt_above (hs.trans hh) right, ← ih]
        congr 2
        omega
      · next hs =>
        rcases Nat.lt_or_ge z s.volume with hzs | hzs
        · rw [stratumAt_bottom rest hzs, stratumAt_bottom rest (by dsimp only; omega)]
          rfl
        · have right : rest ≠ [] := by
            rintro rfl
            rw [volumeOf_nil] at hz
            omega
          rw [stratumAt_above hzs right, stratumAt_above (by dsimp only; omega) right]
          congr 2
          dsimp only
          omega

/-! ### Forced merges -/

theorem makeRoomUpTo_length (most : Nat) (hm : 1 ≤ most) : ∀ (n : Nat) (l : List Stratum), l.length ≤ most + n →
    most < l.length → (makeRoomUpTo most n l).1.length = most
  | 0, l, h, hl => by omega
  | n + 1, l, h, hl => by
    have hf := (forcedMerge_spec l (by omega)).2
    simp only [makeRoomUpTo, if_pos hl]
    rcases Nat.lt_or_ge most (forcedMerge l).length with hlong | hshort
    · exact makeRoomUpTo_length most hm n _ (by omega) hlong
    · rw [(makeRoomUpTo_spec most hm n (forcedMerge l) (by omega)).2.2.2 hshort]
      omega

theorem makeRoom_length {n : Nat} (hn : n ≤ 2) (l : List Stratum) : (makeRoom n l).1.length = min l.length (32 - n) := by
  rcases Nat.lt_or_ge (32 - n) l.length with hlong | hshort
  · rw [Nat.min_eq_right hlong.le]
    exact makeRoomUpTo_length (32 - n) (by omega) l.length l (by omega) hlong
  · rw [(makeRoom_spec n hn l).2.2.2 hshort, Nat.min_eq_left hshort]

theorem makeRoom_flag {n : Nat} (hn : n ≤ 2) (l : List Stratum) : (makeRoom n l).2 = decide (32 - n < l.length) := by
  rw [Bool.eq_iff_iff, (makeRoom_spec n hn l).2.2.1, decide_eq_true_iff]

theorem makeRoom_of_full {n : Nat} (hn : n ≤ 2) {l : List Stratum} (hl : 32 - n < l.length) :
    (makeRoom n l).1 = (makeRoom n (forcedMerge l)).1 := by
  have hf := (forcedMerge_spec l (by omega)).2
  have hlong : Config.strataCapacity - n < l.length := hl
  rw [makeRoom, makeRoom]
  nth_rewrite 1 [← hf]
  simp only [makeRoomUpTo, if_pos hlong]

/-- A bound on every rise of a list is a bound on the smallest. -/
theorem le_smallestRise {r : Int} : ∀ {l : List Stratum}, (∀ (i : Nat) (x y : Stratum), l[i]? = some x →
    l[i + 1]? = some y → r ≤ (y.temp : Int) - x.temp) → ∀ q, smallestRise l = some q → r ≤ q
  | [], _, q, hq => by simp [smallestRise] at hq
  | [_], _, q, hq => by simp [smallestRise] at hq
  | a :: b :: rest, h, q, hq => by
    have first : r ≤ (b.temp : Int) - a.temp := h 0 a b rfl rfl
    have others := le_smallestRise (l := b :: rest) fun i x y hx hy => h (i + 1) x y hx hy
    simp only [smallestRise] at hq
    split at hq <;> cases hq
    · next q' hq' => exact le_min first (others q' hq')
    · exact first

/-- The forced merge joins the lowest of the pairs of smallest difference (R30). -/
theorem smallestRise_append {a b : Stratum} {above : List Stratum} : ∀ below : List Stratum,
    (∀ (i : Nat) (x y : Stratum), (below ++ a :: b :: above)[i]? = some x → (below ++ a :: b :: above)[i + 1]? = some y →
      (b.temp : Int) - a.temp ≤ (y.temp : Int) - x.temp
        ∧ (i < below.length → (b.temp : Int) - a.temp < (y.temp : Int) - x.temp)) →
    smallestRise (below ++ a :: b :: above) = some ((b.temp : Int) - a.temp)
      ∧ mergeAtRise ((b.temp : Int) - a.temp) (below ++ a :: b :: above) = below ++ mergePair a b :: above
  | [], h => by
    refine ⟨?_, by simp [mergeAtRise]⟩
    have bound := le_smallestRise (l := b :: above) fun i x y hx hy => (h (i + 1) x y hx hy).1
    simp only [List.nil_append, smallestRise]
    split
    · next q hq => rw [min_eq_left (bound q hq)]
    · rfl
  | x :: below, h => by
    obtain ⟨hrise, hmerge⟩ := smallestRise_append below fun i u v hu hv =>
      ⟨(h (i + 1) u v hu hv).1, fun hi => (h (i + 1) u v hu hv).2 (Nat.succ_lt_succ hi)⟩
    obtain ⟨y, tail, hl⟩ : ∃ y tail, below ++ a :: b :: above = y :: tail := by
      cases below with
      | nil => exact ⟨a, b :: above, rfl⟩
      | cons y below => exact ⟨y, below ++ a :: b :: above, rfl⟩
    have higher : (b.temp : Int) - a.temp < (y.temp : Int) - x.temp :=
      (h 0 x y rfl (by rw [List.cons_append, hl]; rfl)).2 (Nat.succ_pos _)
    rw [List.cons_append, hl]
    rw [hl] at hrise hmerge
    constructor
    · simp only [smallestRise, hrise, min_eq_right higher.le]
    · simp only [mergeAtRise, if_neg higher.ne', hmerge, List.cons_append]

/-- Settles O26: a cut splits at most one record and reads as before on either side, and making room is a row of forced
merges, each of the lowest pair of smallest difference. -/
theorem cutAndRoomKeepTheWater : Obligations.CutAndRoomKeepTheWater := by
  refine ⟨fun h l hh hl => ?cut, fun n l hn => ?room, fun n l hn hl => makeRoom_of_full hn hl,
    fun below above a b h => ?forced⟩
  case cut =>
    obtain ⟨vol1, vol2, -, -⟩ := cut_spec h l hh
    obtain ⟨pos1, pos2⟩ := cut_volumes_pos h l hl
    refine ⟨vol1, vol2, fun x hx => ⟨?_, mem_cut h l x hx⟩, fun z hz => stratumAt_cut_below h z l hh hz,
      fun z hz1 hz2 => stratumAt_cut_above h z l hz1 hz2⟩
    exact (List.mem_append.mp hx).elim (pos1 x) (pos2 x)
  case room =>
    obtain ⟨vol, -, flag, same⟩ := makeRoom_spec n hn l
    exact ⟨vol, makeRoom_length hn l, flag, same⟩
  case forced =>
    obtain ⟨hrise, hmerge⟩ := smallestRise_append below h
    simp only [forcedMerge, hrise, hmerge]

/-! ### Lookups -/

/-- The stratum whose span holds a height, or the top one (R4). -/
theorem stratumAt_append {x : Stratum} {above : List Stratum} : ∀ (below : List Stratum) (h : Nat), volumeOf below ≤ h →
    (h < volumeOf below + x.volume ∨ above = []) → stratumAt h (below ++ x :: above) = some x
  | [], h, _, hx => by
    rcases hx with hx | rfl
    · rw [volumeOf_nil, Nat.zero_add] at hx
      exact stratumAt_bottom above hx
    · rfl
  | s :: below, h, hb, hx => by
    rw [volumeOf_cons] at hb hx
    rw [List.cons_append, stratumAt_above (by omega) (by simp)]
    exact stratumAt_append below (h - s.volume) (by omega) (hx.imp (fun hlt => by omega) id)

theorem tempAt_append {x : Stratum} {below above : List Stratum} {h : Nat} (hb : volumeOf below ≤ h)
    (hx : h < volumeOf below + x.volume ∨ above = []) : tempAt h (below ++ x :: above) = x.temp := by
  simp only [tempAt, stratumAt_append below h hb hx]

theorem changeAt_append (f : Stratum → Stratum) {x : Stratum} {above : List Stratum} : ∀ (below : List Stratum) (h : Nat),
    volumeOf below ≤ h → (h < volumeOf below + x.volume ∨ above = []) →
      changeAt f h (below ++ x :: above) = below ++ f x :: above
  | [], h, _, hx => by
    cases above with
    | nil => rfl
    | cons y above =>
      have hlt : h < x.volume := by
        rcases hx with hx | hx
        · rwa [volumeOf_nil, Nat.zero_add] at hx
        · cases hx
      simp only [List.nil_append, changeAt, if_pos hlt]
  | s :: below, h, hb, hx => by
    rw [volumeOf_cons] at hb hx
    have ih := changeAt_append f (x := x) below (h - s.volume) (by omega) (hx.imp (fun hlt => by omega) id)
    obtain ⟨y, tail, hl⟩ : ∃ y tail, below ++ x :: above = y :: tail := by
      cases below with
      | nil => exact ⟨x, above, rfl⟩
      | cons y below => exact ⟨y, below ++ x :: above, rfl⟩
    have hs : ¬h < s.volume := by omega
    rw [hl] at ih
    rw [List.cons_append, hl, List.cons_append, ← ih]
    simp only [changeAt, if_neg hs]

/-! ### Summaries -/

theorem whNeed_eq (n : Nat) : whNeed n = (n + 859) / 860 := by
  rw [whNeed, ceilDiv]
  omega

theorem volumeOf_filter (q : Stratum → Bool) (l : List Stratum) :
    volumeOf (l.filter q) = (l.map fun x => if q x then x.volume else 0).sum := by
  induction l with
  | nil => rfl
  | cons x l ih =>
    by_cases hx : q x <;> simp [hx, ih]

theorem volumeOf_reverse (l : List Stratum) : volumeOf l.reverse = volumeOf l := by
  simp [volumeOf, List.sum_reverse]

theorem shortfall_reverse (target : Nat) (l : List Stratum) : shortfall target l.reverse = shortfall target l := by
  simp [shortfall, List.sum_reverse]

theorem shortfallWithin_zero (target : Nat) : ∀ l : List Stratum, shortfallWithin target 0 l = 0
  | [] => rfl
  | s :: l => by simp [shortfallWithin, shortfallWithin_zero target l]

/-- The shortfall of whole strata from the top and of a part of the next (R13). -/
theorem shortfallWithin_append {target : Nat} {x : Stratum} {rest : List Stratum} : ∀ (top : List Stratum) (w : Nat),
    volumeOf top ≤ w → w ≤ volumeOf top + x.volume →
      shortfallWithin target w (top ++ x :: rest) = shortfall target top + (w - volumeOf top) * (target - x.temp)
  | [], w, _, hw => by
    rw [volumeOf_nil, Nat.zero_add] at hw
    have none_left : w - x.volume = 0 := by omega
    simp [shortfallWithin, shortfall, Nat.min_eq_right hw, none_left, shortfallWithin_zero]
  | s :: top, w, ht, hw => by
    rw [volumeOf_cons] at ht hw
    have ih := shortfallWithin_append (target := target) (x := x) (rest := rest) top (w - s.volume) (by omega) (by omega)
    have part : w - (s.volume + volumeOf top) = w - s.volume - volumeOf top := by omega
    have whole : min s.volume w = s.volume := by omega
    simp only [List.cons_append, shortfallWithin, ih, whole, volumeOf_cons, part]
    simp only [shortfall, List.map_cons, List.sum_cons]
    omega

/-- From the first stratum that reaches above the hygiene floor on, every stratum is tracked (R14). -/
theorem trackedFrom_of_reached {floor : Nat} : ∀ (l : List Stratum) (base : Nat), floor < base →
    trackedFrom floor base l = l
  | [], _, _ => rfl
  | s :: l, base, h => by
    have hs : floor < base + s.volume := by omega
    simp only [trackedFrom, if_pos hs, trackedFrom_of_reached l _ hs]

theorem trackedFrom_append {floor : Nat} (l : List Stratum) : ∀ (below : List Stratum) (base : Nat),
    base + volumeOf below ≤ floor → trackedFrom floor base (below ++ l) = trackedFrom floor (base + volumeOf below) l
  | [], _, _ => rfl
  | s :: below, base, h => by
    rw [volumeOf_cons] at h ⊢
    rw [List.cons_append, trackedFrom, if_neg (by omega), trackedFrom_append l below (base + s.volume) (by omega),
      Nat.add_assoc]

theorem tracked_append {floor : Nat} {x : Stratum} {below above : List Stratum} (hb : volumeOf below ≤ floor)
    (hx : floor < volumeOf below + x.volume) : tracked floor (below ++ x :: above) = x :: above := by
  rw [tracked, trackedFrom_append _ below 0 (by omega), Nat.zero_add, trackedFrom, if_pos hx,
    trackedFrom_of_reached above _ hx]

theorem tracked_of_low {floor : Nat} {l : List Stratum} (h : volumeOf l ≤ floor) : tracked floor l = [] := by
  have key := trackedFrom_append (floor := floor) [] l 0 (by omega)
  rw [List.append_nil] at key
  exact key

/-- Settles O27: the lookup by its place in the list, and each summary as the sum its rule names. -/
theorem lookupsAndSummariesReadTheList : Obligations.LookupsAndSummariesReadTheList := by
  refine ⟨fun h below above x hb hx => tempAt_append hb (.inl hx), fun h below x hb => tempAt_append hb (.inr rfl),
    fun st => rfl, fun st => ?hot, fun st below above x hl hrun hw1 hw2 => ?comfort, fun st hh => ?holiday,
    fun st below above x hl hb hx => ?hygiene, fun st hlow => ?untracked, fun st a => rfl⟩
  case hot =>
    rw [Store.hotVolume, volumeOf_filter]
    simp only [decide_eq_true_eq]
  case comfort =>
    have top : st.strata.reverse = above.reverse ++ x :: below.reverse := by rw [hl]; simp
    rw [← volumeOf_reverse] at hw1 hw2
    rw [Store.comfortNeed, hrun, top, shortfallWithin_append _ _ hw1 hw2, shortfall_reverse, volumeOf_reverse,
      if_neg Bool.false_ne_true, whNeed_eq, shortfall]
  case holiday =>
    rw [Store.comfortNeed, hh]
    rfl
  case hygiene =>
    rw [Store.hygieneNeed, Store.trackedStrata, hl, tracked_append hb hx, whNeed_eq, shortfall]
  case untracked =>
    rw [Store.hygieneNeed, Store.trackedStrata, tracked_of_low hlow, whNeed_eq]
    simp [shortfall]

end Sys2Proof.Machine
end

section
/-!
PROOF. What the deposits leave of the volume, the length and the records of a list, for any property of records that merging
and cutting hand on; and from it what each deposit lays in and how it is capped (R46 to R51).
-/

namespace Sys2Proof.Machine

/-! ### Properties a list operation hands on -/

/-- A property of records that a part of a record has with it (R24). -/
def PartClosed (Q : Stratum → Prop) : Prop :=
  ∀ x y, Q y → 1 ≤ x.volume → x.volume ≤ y.volume → x.temp = y.temp → x.age = y.age → x.dwell = y.dwell → Q x

/-- A property of records that holds of real water alone and that mixing and cutting hand on. -/
structure Lasting (Q : Stratum → Prop) : Prop where
  volume : ∀ x, Q x → 1 ≤ x.volume
  merge : MergeClosed Q
  part : PartClosed Q

section
variable {Q : Stratum → Prop} (hQ : Lasting Q)
include hQ

theorem Lasting.cut (h : Nat) {l : List Stratum} (hl : ∀ x ∈ l, Q x) :
    (∀ x ∈ (cut h l).1, Q x) ∧ (∀ x ∈ (cut h l).2, Q x) := by
  obtain ⟨pos1, pos2⟩ := cut_volumes_pos h l fun x hx => hQ.volume x (hl x hx)
  have both : ∀ x ∈ (Machine.cut h l).1 ++ (Machine.cut h l).2, 1 ≤ x.volume → Q x := by
    intro x hx hv
    obtain ⟨y, hy, hvol, htemp, hage, hdwell⟩ := mem_cut h l x hx
    exact hQ.part x y (hl y hy) hv hvol htemp hage hdwell
  exact ⟨fun x hx => both x (List.mem_append_left _ hx) (pos1 x hx),
    fun x hx => both x (List.mem_append_right _ hx) (pos2 x hx)⟩

theorem Lasting.makeRoom (n : Nat) {l : List Stratum} (hl : ∀ x ∈ l, Q x) : ∀ x ∈ (makeRoom n l).1, Q x :=
  makeRoom_forall hQ.merge n hl

theorem Lasting.normalize (cfg : StoreConfig) {l : List Stratum} (hl : ∀ x ∈ l, Q x) : ∀ x ∈ cfg.normalize l, Q x :=
  normalize_forall hQ.merge _ _ hl

end

/-- A list of volume V of at most so many records, each with a property (R20). -/
structure Held (Q : Stratum → Prop) (volume most : Nat) (l : List Stratum) : Prop where
  volume : volumeOf l = volume
  length : l.length ≤ most
  records : ∀ x ∈ l, Q x

section
variable {Q : Stratum → Prop} {cfg : StoreConfig} {v m : Nat} {l : List Stratum}

theorem Held.normalize (hQ : Lasting Q) (h : Held Q v m l) : Held Q v m (cfg.normalize l) := by
  obtain ⟨vol, len, -, -⟩ := normalize_spec cfg.mergeBand cfg.minStratum l
  exact ⟨vol.trans h.volume, len.trans h.length, hQ.normalize cfg h.records⟩

theorem Held.map (h : Held Q v m l) (f : Stratum → Stratum) (hf : ∀ x, Q x → Q (f x)) (hv : ∀ x, (f x).volume = x.volume) :
    Held Q v m (l.map f) :=
  ⟨(map_volume f hv l).trans h.volume, by rw [List.length_map]; exact h.length,
    List.forall_mem_map.mpr fun x hx => hf x (h.records x hx)⟩

theorem Held.changeAt (h : Held Q v m l) (f : Stratum → Stratum) (height : Nat) (hf : ∀ x, Q x → Q (f x))
    (hv : ∀ x, (f x).volume = x.volume) : Held Q v m (changeAt f height l) :=
  ⟨(changeAt_volume f hv height l).trans h.volume, by rw [changeAt_length]; exact h.length,
    changeAt_forall f hf height l h.records⟩

/-! ### The three deposits -/

theorem Held.coilDeposit {bottom top q supply : Nat} (hQ : Lasting Q) (hm : 32 ≤ m) (h : Held Q v m l)
    (hb : bottom < top) (ht : top ≤ v)
    (hmix : ∀ zone : List Stratum, zone ≠ [] → (∀ x ∈ zone, Q x) → Q (mixZone q supply zone)) :
    Held Q v m (coilDeposit cfg bottom top q supply l).1 := by
  unfold Machine.coilDeposit
  dsimp only
  split
  · exact h
  · obtain ⟨roomVol, roomLen, -, -⟩ := makeRoom_spec 2 (by omega) l
    have roomRecords := hQ.makeRoom 2 h.records
    generalize (makeRoom 2 l).1 = room at roomVol roomLen roomRecords ⊢
    rw [h.volume] at roomVol
    obtain ⟨belowVol, restVol, -, len1⟩ := cut_spec bottom room (by omega)
    obtain ⟨belowRecords, restRecords⟩ := hQ.cut bottom roomRecords
    obtain ⟨zoneVol, aboveVol, -, len2⟩ := cut_spec (top - bottom) (Machine.cut bottom room).2 (by omega)
    obtain ⟨zoneRecords, aboveRecords⟩ := hQ.cut (top - bottom) restRecords
    have zoneSome : (Machine.cut (top - bottom) (Machine.cut bottom room).2).1 ≠ [] := by
      intro he
      rw [he, volumeOf_nil] at zoneVol
      omega
    have zoneLen := List.length_pos_iff.mpr zoneSome
    refine Held.normalize hQ ⟨?_, ?_, ?_⟩
    · simp only [volumeOf_append, volumeOf_cons, mixZone]
      omega
    · simp only [List.length_append, List.length_cons]
      omega
    · simp only [List.forall_mem_append, List.forall_mem_cons]
      exact ⟨belowRecords, hmix _ zoneSome zoneRecords, aboveRecords⟩

theorem Held.elementDeposit {height q supply : Nat} (hQ : Lasting Q) (h : Held Q v m l)
    (hheat : ∀ x, Q x → Q (heatStratum q supply x)) : Held Q v m (elementDeposit cfg height q supply l).1 := by
  unfold Machine.elementDeposit
  split
  · exact h
  · exact Held.normalize hQ (h.changeAt _ height hheat fun _ => rfl)

theorem Held.lanceDeposit {maximum q supply : Nat} (hQ : Lasting Q) (hm : 32 ≤ m) (h : Held Q v m l) (hmax : maximum ≤ v / 4)
    (hnew : ∀ (volume : Nat) (parts : List Stratum), 1 ≤ volume → (∀ x ∈ parts, Q x) →
      Q { volume := volume, temp := clampTemp supply, age := maxAge parts, dwell := 0 }) :
    Held Q v m (lanceDeposit cfg maximum q supply l).1 := by
  unfold Machine.lanceDeposit
  dsimp only
  split
  · exact h
  · next hin =>
    have hle : lanceVolume maximum q supply l ≤ maximum := by
      rw [lanceVolume]
      split
      · exact Nat.zero_le _
      · exact Nat.min_le_right _ _
    obtain ⟨roomVol, roomLen, -, -⟩ := makeRoom_spec 1 (by omega) l
    have roomRecords := hQ.makeRoom 1 h.records
    generalize (makeRoom 1 l).1 = room at roomVol roomLen roomRecords ⊢
    generalize lanceVolume maximum q supply l = vIn at hin hle ⊢
    rw [h.volume] at roomVol
    obtain ⟨offVol, keptVol, -, len⟩ := cut_spec vIn room (by omega)
    obtain ⟨offRecords, keptRecords⟩ := hQ.cut vIn roomRecords
    have offSome : (Machine.cut vIn room).1 ≠ [] := by
      intro he
      rw [he, volumeOf_nil] at offVol
      omega
    have offLen := List.length_pos_iff.mpr offSome
    refine Held.normalize hQ ⟨?_, ?_, insertByTemp_forall (hnew vIn _ (by omega) offRecords) keptRecords⟩
    · rw [insertByTemp_volume]
      dsimp only
      omega
    · rw [insertByTemp_length]
      omega

/-- Any deposit that fits the store keeps what lasts, given that of the record it mixes, heats or brings in. -/
theorem Held.depositList {e : Entry} {q supply : Nat} (hQ : Lasting Q) (hm : 32 ≤ m) (h : Held Q v m l) (he : e.InStore v)
    (hmix : ∀ zone : List Stratum, zone ≠ [] → (∀ x ∈ zone, Q x) → Q (mixZone q supply zone))
    (hheat : ∀ x, Q x → Q (heatStratum q supply x))
    (hnew : ∀ (volume : Nat) (parts : List Stratum), 1 ≤ volume → (∀ x ∈ parts, Q x) →
      Q { volume := volume, temp := clampTemp supply, age := maxAge parts, dwell := 0 }) :
    Held Q v m (depositList cfg e q supply l).1 := by
  cases e with
  | coil bottom top => exact h.coilDeposit hQ hm he.1 he.2 hmix
  | lance maximum => exact h.lanceDeposit hQ hm he.2 hnew
  | element height => exact h.elementDeposit hQ hheat

end

end Sys2Proof.Machine
end

section
/-!
PROOF. What each entry mode lays in, step by step, and from it and from what lasts through a deposit the statement on
deposits (R46 to R51).
-/

namespace Sys2Proof.Machine

/-- Water of 1 dL or more, no warmer than a bound. -/
def Stratum.AtMost (b : Nat) (x : Stratum) : Prop := 1 ≤ x.volume ∧ x.temp ≤ b

theorem Stratum.AtMost.lasting {b : Nat} (hb : b ≤ 11000) : Lasting (Stratum.AtMost b) where
  volume _ h := h.1
  merge x y hx hy := by
    refine ⟨le_trans hx.1 (Nat.le_add_right _ _), ?_⟩
    rw [mergePair_temp hx.1 (hx.2.trans hb) (hy.2.trans hb)]
    exact (mergePair_mean_bounds hx.1 ⟨Nat.zero_le _, hx.2⟩ ⟨Nat.zero_le _, hy.2⟩).2
  part x y hy hv _ ht _ _ := ⟨hv, ht ▸ hy.2⟩

theorem volumeOf_pos {l : List Stratum} (hl : l ≠ []) (h : ∀ x ∈ l, 1 ≤ x.volume) : 1 ≤ volumeOf l := by
  cases l with
  | nil => exact absurd rfl hl
  | cons x l =>
    rw [volumeOf_cons]
    exact le_trans (h x (by simp)) (Nat.le_add_right _ _)

theorem clampTemp_min_of_le {t supply : Nat} (h : supply ≤ 11000) : clampTemp (min t supply) = min t supply :=
  clampTemp_of_le ((Nat.min_le_right _ _).trans h)

/-- A record mixed, heated or brought in under a supply temperature is no warmer than the supply. -/
theorem clampTemp_min_le (t supply : Nat) : clampTemp (min t supply) ≤ supply :=
  (Nat.min_le_left _ _).trans (Nat.min_le_right _ _)

/-! ### Inserting -/

theorem insertByTemp_append {new : Stratum} {above : List Stratum} (ha : ∀ y, above.head? = some y → new.temp ≤ y.temp) :
    ∀ below : List Stratum, (∀ y ∈ below, y.temp < new.temp) → insertByTemp new (below ++ above) = below ++ new :: above
  | [], _ => by
    cases above with
    | nil => rfl
    | cons y above => simp only [List.nil_append, insertByTemp, if_pos (ha y rfl)]
  | x :: below, h => by
    obtain ⟨hx, hb⟩ := List.forall_mem_cons.mp h
    simp only [List.cons_append, insertByTemp, if_neg (Nat.not_le.mpr hx), insertByTemp_append ha below hb]

/-! ### The transfer volume of a lance -/

theorem lanceDeposit_of_zero {cfg : StoreConfig} {maximum q supply : Nat} {l : List Stratum}
    (h : lanceVolume maximum q supply l = 0) : lanceDeposit cfg maximum q supply l = (l, false) := by
  simp only [lanceDeposit, h, if_true]

theorem lanceDeposit_of_pos {cfg : StoreConfig} {maximum q supply : Nat} {l : List Stratum}
    (h : 1 ≤ lanceVolume maximum q supply l) (hs : supply ≤ 11000) :
    lanceDeposit cfg maximum q supply l =
      (cfg.normalize (insertByTemp
        ⟨lanceVolume maximum q supply l, supply, maxAge (cut (lanceVolume maximum q supply l) (makeRoom 1 l).1).1, 0⟩
        (cut (lanceVolume maximum q supply l) (makeRoom 1 l).1).2), decide (31 < l.length)) := by
  have hne : lanceVolume maximum q supply l ≠ 0 := by omega
  have flag : (makeRoom 1 l).2 = decide (31 < l.length) := makeRoom_flag (by omega) l
  simp only [lanceDeposit, if_neg hne, clampTemp_of_le hs, flag]

/-- Settles O28: each entry mode's list step by step, and for the bounds what lasts through any deposit. -/
theorem depositsKeepVolumeAndCap : Obligations.DepositsKeepVolumeAndCap := by
  refine ⟨fun cfg bottom top q supply l => ⟨fun hcool => ?coilCool, fun hwarm hs => ?coilWarm⟩,
    fun cfg height q supply below above x hb hx => ⟨fun hcool => ?elementCool, fun hwarm hs => ?elementWarm⟩,
    fun cfg maximum q supply x above => ⟨fun hcool => ?lanceCool, fun hwarm hv hs => ?lanceWarm⟩,
    fun new below above hb ha => insertByTemp_append ha below hb,
    fun cfg e q supply b l he hl hs hb => ?bounds, fun wh l m => ⟨Nat.min_le_right _ _, fun hle => ?noRise, ?absorbed⟩⟩
  case coilCool => exact if_pos hcool
  case coilWarm =>
    have flag : (makeRoom 2 l).2 = decide (30 < l.length) := makeRoom_flag (by omega) l
    have warm : ¬supply ≤ meanTemp (zoneParts bottom top l) := Nat.not_le.mpr hwarm
    simp only [depositList, coilDeposit, if_neg warm, mixZone, clampTemp_min_of_le hs, roundDiv, flag]
  case elementCool =>
    rw [← tempAt_append hb hx] at hcool
    exact if_pos hcool
  case elementWarm =>
    have warm : ¬supply ≤ tempAt height (below ++ x :: above) := by
      rw [tempAt_append hb hx]
      exact Nat.not_le.mpr hwarm
    simp only [depositList, elementDeposit, if_neg warm, changeAt_append _ below height hb hx, heatStratum,
      clampTemp_min_of_le hs, roundDiv]
  case lanceCool =>
    refine lanceDeposit_of_zero ?_
    rw [lanceVolume]
    split
    · rfl
    · next hlow => exact hcool.resolve_left hlow
  case lanceWarm =>
    have vol : lanceVolume maximum q supply (x :: above)
        = min ((2 * q + (supply - x.temp)) / (2 * (supply - x.temp))) maximum := if_neg (Nat.not_lt.mpr hwarm)
    have laid := lanceDeposit_of_pos (cfg := cfg) (vol ▸ hv) hs
    rw [vol] at laid
    exact laid
  case bounds =>
    have before : Held (Stratum.AtMost b) (volumeOf l) (max 32 l.length) l := ⟨rfl, Nat.le_max_right _ _, hl⟩
    have after := before.depositList (cfg := cfg) (q := q) (Stratum.AtMost.lasting hb) (Nat.le_max_left _ _) he
      (fun zone hsome hzone => ⟨volumeOf_pos hsome fun x hx => (hzone x hx).1, (clampTemp_min_le _ _).trans hs⟩)
      (fun x hx => ⟨hx.1, (clampTemp_min_le _ _).trans hs⟩)
      (fun volume parts hv _ => ⟨hv, (Nat.min_le_left _ _).trans hs⟩)
    exact ⟨after.volume, fun x hx => (after.records x hx).2⟩
  case noRise =>
    rw [absorbedWh, Nat.sub_eq_zero_of_le hle]
    exact Nat.zero_min _
  case absorbed => rfl

end Sys2Proof.Machine
end

section
/-!
PROOF. Every link request in one shape: its message, and the work of the block that owns it. With it the statements about
requests that must wait (R166) and about messages and commands (R168).
-/

namespace Sys2Proof

open Machine

/-- A long request's owner, given the payload of a body that has one. -/
def LongBody.owned (body : LongBody) (owner : List Byte → State → Reply) (s : State) : Reply :=
  match body with
  | .full p _ => owner p s
  | .marked _ => s.answer .errLength

/-- The owning block's work on the request a command carries; a command that carries none has nothing to answer. -/
def Instr.owner : Instr → State → Reply
  | .unassignedKind _ _ body => body.owned fun _ s => s.answer .errKind
  | .identify _ _ _ => State.identifyRequest
  | .setMode _ p0 _ => State.setModeRequest p0
  | .setForecast _ p0 p1 => State.setForecastRequest p0 p1
  | .setMains _ p0 p1 => State.setMainsRequest p0 p1
  | .setAmbient _ p0 p1 => State.setAmbientRequest p0 p1
  | .draw _ p0 p1 => State.drawRequest p0 p1
  | .keepalive ch p0 _ => State.keepaliveRequest ch p0
  | .release ch p0 _ => State.releaseRequest ch p0
  | .revoke _ p0 _ => State.revokeRequest p0
  | .scan _ _ _ => State.scanRequest
  | .relock _ p0 p1 | .clearMinMax _ p0 p1 | .clearAlarm _ p0 p1 => State.probeClearRequest p0 p1
  | .reseed _ _ _ => State.reseedRequest
  | .notices _ p0 p1 => State.noticesRequest p0 p1
  | .noticeEnable _ p0 p1 => State.noticeEnableRequest p0 p1
  | .reset _ p0 _ => State.resetRequest p0
  | .profile _ p0 _ => State.profileRequest p0
  | .configureStore _ body => body.owned State.configureStoreRequest
  | .configurePort _ body => body.owned State.configurePortRequest
  | .configureProbe _ body => body.owned State.configureProbeRequest
  | .requestCharge ch body => body.owned (State.requestChargeRequest ch)
  | .deposit ch body => body.owned (State.depositRequest ch)
  | .readStrata _ body | .readPorts _ body | .readGrants _ body | .readProbes _ body | .readSummary _ body =>
    body.owned State.readRequest
  | .powerOn | .resetPinLow | .resetPinRelease | .rxByte _ | .rxFramingFault | .stallExpiry
  | .resetGrantsTakesEffect | .resetFullTakesEffect | .lossIntervalExpiry | .hygieneMinuteExpiry
  | .livenessExpiry _ | .minRunExpiry _ | .solarIdleExpiry | .hygieneTimeLimitExpiry | .scanIntervalExpiry
  | .conversionTimeout | .probeReply _ _ _ | .probeCorrection | .lockoutHoldExpiry _ | .rateStrapChange _ _ =>
    fun s => s.answer .ok

end Sys2Proof

namespace Sys2Proof.Machine

/-- A command that carries a message is the request of that message to its owner. -/
theorem exec_request {c : Instr} {m : Message} (h : c.message = some m) (s : State) :
    exec c s = .next (s.request m c.owner) := by
  cases c <;> cases h <;> rfl

/-- The ways of a request: without effect under the RESET pin, offered to the queue, or taken (R166, R169, R180). -/
theorem State.request_cases (s : State) (m : Message) (owner : State → Reply) :
    s.request m owner = s ∨ s.request m owner = s.offer m ∨ ∃ t, s.Taking m t ∧ s.request m owner = t.handle m owner := by
  by_cases hpin : s.pins.resetLow = true
  · exact .inl (State.request_held hpin m owner)
  · rw [Bool.not_eq_true] at hpin
    by_cases hreset : s.link.resetPending = none
    · cases hq : s.link.queue with
      | nil =>
        have taking : s.Taking m s := ⟨hpin, hreset, .inl ⟨hq, rfl⟩⟩
        exact .inr (.inr ⟨s, taking, State.request_taken taking owner⟩)
      | cons q rest =>
        by_cases hm : q = m
        · have taking : s.Taking m { s with link := { s.link with queue := rest } } :=
            ⟨hpin, hreset, .inr ⟨rest, by rw [hq, hm], rfl⟩⟩
          exact .inr (.inr ⟨_, taking, State.request_taken taking owner⟩)
        · exact .inr (.inl (State.request_waiting ⟨hpin, .inr ⟨q, rest, hq, hm⟩⟩ owner))
    · exact .inr (.inl (State.request_waiting ⟨hpin, .inl hreset⟩ owner))

/-- A message that is handled leaves its owner's state, or the state as it was, but for the bytes sent. -/
theorem State.handle_cases (s : State) (m : Message) (owner : State → Reply) :
    (∃ a, s.handle m owner = s.send m a) ∨ ∃ a, s.handle m owner = (owner s).state.send m a := by
  cases h : m.failedCheck with
  | some st => exact .inl ⟨_, State.handle_failed h owner⟩
  | none => exact .inr ⟨_, State.handle_passed h owner⟩

theorem State.offer_of_room {s : State} (h : s.link.queue.length < 2) (m : Message) :
    s.offer m = { s with link := { s.link with queue := s.link.queue ++ [m] } } :=
  if_pos h

theorem State.offer_of_full {s : State} (h : 2 ≤ s.link.queue.length) (m : Message) : s.offer m = s.raise .linkError :=
  if_neg (Nat.not_lt.mpr h)

/-- Settles O13: a request that must wait is its message offered to the receive queue. -/
theorem waitingRequestJoinsTheQueue : Obligations.WaitingRequestJoinsTheQueue := by
  intro c m s hm hw
  rw [exec_request hm, State.request_waiting hw]
  refine ⟨fun hroom => ?_, fun hfull => ?_⟩
  · rw [State.offer_of_room hroom]
  · rw [State.offer_of_full hfull]
    rfl

/-! ### Messages and commands -/

theorem probeClearCommand_message (ch : Channel) (p0 p1 : Byte) :
    (probeClearCommand ch p0 p1).message = some ⟨10, ch, .short p0 p1⟩ := by
  unfold probeClearCommand
  split
  · rfl
  · split <;> rfl

theorem readCommand_message (ch : Channel) (body : LongBody) :
    (readCommand ch body).message = some ⟨21, ch, .long body⟩ := by
  unfold readCommand
  split
  · rfl
  · split
    · rfl
    · split
      · rfl
      · split <;> rfl

theorem shortCommand_message {k : Nat} {ch : Channel} {p0 p1 : Byte} {c : Instr} (h : shortCommand k ch p0 p1 = some c) :
    c.message = some ⟨BitVec.ofNat 5 k, ch, .short p0 p1⟩ := by
  unfold shortCommand at h
  split at h
  case h_11 =>
    cases h
    exact probeClearCommand_message ch p0 p1
  all_goals cases h <;> rfl

theorem longCommand_message {k : Nat} {ch : Channel} {body : LongBody} {c : Instr} (h : longCommand k ch body = some c) :
    c.message = some ⟨BitVec.ofNat 5 k, ch, .long body⟩ := by
  unfold longCommand at h
  split at h
  case h_6 =>
    cases h
    exact readCommand_message ch body
  all_goals cases h <;> rfl

/-- The command of a message carries that message (R161, R168). -/
theorem command_message {m : Message} {c : Instr} (h : m.command = some c) : c.message = some m := by
  obtain ⟨kind, ch, content⟩ := m
  have named : BitVec.ofNat 5 kind.toNat = kind := by simp
  cases content with
  | short p0 p1 => rw [shortCommand_message h, named]
  | long body => rw [longCommand_message h, named]

/-- A message as reception can leave it has a command (R168). -/
theorem command_of_wf {m : Message} (h : m.wf = true) : ∃ c, m.command = some c := by
  obtain ⟨kind, ch, content⟩ := m
  have hk := kind.isLt
  cases content with
  | short p0 p1 =>
    have short : kind.toNat < 16 := of_decide_eq_true h
    simp only [Message.command]
    generalize kind.toNat = k at short
    interval_cases k <;> exact ⟨_, rfl⟩
  | long body =>
    have long : 16 ≤ kind.toNat := of_decide_eq_true (Bool.and_eq_true_iff.mp h).1
    simp only [Message.command]
    generalize kind.toNat = k at long hk
    interval_cases k <;> exact ⟨_, rfl⟩

theorem selector_of_selects {body : LongBody} {k : Nat} (h : body.selects k = true) :
    body.selector = some (BitVec.ofNat 8 k) :=
  of_decide_eq_true (Bool.and_eq_true_iff.mp h).2

theorem readCommand_of_selects {ch : Channel} {body : LongBody} :
    (body.selects 0 = true → readCommand ch body = .readStrata ch body)
      ∧ (body.selects 1 = true → readCommand ch body = .readPorts ch body)
      ∧ (body.selects 2 = true → readCommand ch body = .readGrants ch body)
      ∧ (body.selects 3 = true → readCommand ch body = .readProbes ch body)
      ∧ (body.selects 4 = true → readCommand ch body = .readSummary ch body) := by
  refine ⟨fun h => ?_, fun h => ?_, fun h => ?_, fun h => ?_, fun h => ?_⟩ <;>
    (rw [readCommand, selector_of_selects h]; rfl)

/-- A command the spec admits is the command of its message, but for a PROBE_CLEAR row named by an earlier action. -/
theorem command_of_message {c : Instr} {m : Message} (hc : c.wf = true) (hm : c.message = some m)
    (hmin : ∀ ch p0 p1, c ≠ .clearMinMax ch p0 p1) (halarm : ∀ ch p0 p1, c ≠ .clearAlarm ch p0 p1) :
    m.command = some c := by
  cases c
  case relock ch p0 p1 =>
    cases hm
    exact congrArg some (if_pos hc)
  case clearMinMax ch p0 p1 => exact absurd rfl (hmin ch p0 p1)
  case clearAlarm ch p0 p1 => exact absurd rfl (halarm ch p0 p1)
  case readStrata ch body =>
    cases hm
    exact congrArg some (readCommand_of_selects.1 hc)
  case readPorts ch body =>
    cases hm
    exact congrArg some (readCommand_of_selects.2.1 hc)
  case readGrants ch body =>
    cases hm
    exact congrArg some (readCommand_of_selects.2.2.1 hc)
  case readProbes ch body =>
    cases hm
    exact congrArg some (readCommand_of_selects.2.2.2.1 hc)
  case readSummary ch body =>
    cases hm
    exact congrArg some (readCommand_of_selects.2.2.2.2 hc)
  case unassignedKind k ch body =>
    cases hm
    fin_cases k <;> rfl
  all_goals cases hm <;> rfl

/-- Settles O4: a message and its command carry the same kind, channel and content, kind by kind. -/
theorem messagesAndCommandsAgree : Obligations.MessagesAndCommandsAgree := by
  refine ⟨fun nbits w s => ⟨rfl, rfl⟩, fun m hm => ?_, fun c m hc hm => command_of_message hc hm,
    fun ch p0 p1 h0 => ⟨fun h1 => ?_, fun h1 => ?_⟩⟩
  · obtain ⟨c, hc⟩ := command_of_wf hm
    exact ⟨c, hc, command_message hc⟩
  · have row : probeClearCommand ch p0 p1 = .clearMinMax ch p0 p1 := by rw [probeClearCommand, h0, h1]; rfl
    exact congrArg some row
  · have row : probeClearCommand ch p0 p1 = .clearAlarm ch p0 p1 := by rw [probeClearCommand, h0, h1]; rfl
    exact congrArg some row

end Sys2Proof.Machine
end

section
/-!
PROOF. Everything the shared operations do to the grants, as a row of moves from a short list (R101 to R139): the list is
what a proof of an invariant goes through, in place of the operations.
-/

namespace Sys2Proof.Machine

open Relation (ReflTransGen)

/-! ### A grant that stays -/

/-- How an operation leaves a grant that stays unretired: its handle, supply and class kept, its delivered Wh in range, and a
NORMAL budget not raised and not used up. -/
structure Grant.Retuned (g h : Grant) : Prop where
  handle : h.handle = g.handle
  supply : h.declaredSupply = g.declaredSupply
  delivered : h.delivered = g.delivered ∨ h.delivered ≤ 4294967295
  mustTake : ∀ held, g.cls = .mustTake held → h.cls = .mustTake held
  hygiene : g.cls = .hygiene → h.cls = .hygiene
  normal : ∀ n, g.cls = .normal n →
    ∃ m, h.cls = .normal m ∧ m.budget ≤ n.budget ∧ (g.delivered < n.budget → h.delivered < m.budget)

theorem Grant.Retuned.refl (g : Grant) : g.Retuned g :=
  ⟨rfl, rfl, .inl rfl, fun _ h => h, fun h => h, fun n h => ⟨n, h, Nat.le_refl _, fun h => h⟩⟩

/-- A grant table whose grants all stay. -/
def Retuned (gs hs : PerPort (Option Grant)) : Prop := ∀ p, Option.Rel Grant.Retuned (gs.get p) (hs.get p)

theorem Option.rel_refl {α : Type} {r : α → α → Prop} (h : ∀ a, r a a) : ∀ o : Option α, Option.Rel r o o
  | none => .none
  | some a => .some (h a)

theorem Option.rel_map {α : Type} {r : α → α → Prop} {f : α → α} (o : Option α) (h : ∀ a, o = some a → r a (f a)) :
    Option.Rel r o (o.map f) := by
  cases o with
  | none => exact .none
  | some a => exact .some (h a rfl)

theorem retuned_set {gs : PerPort (Option Grant)} {p : PortId} {f : Grant → Grant}
    (h : ∀ g, gs.get p = some g → g.Retuned (f g)) : Retuned gs (gs.set p ((gs.get p).map f)) := by
  intro q
  rw [PerPort.get_set]
  split
  · next hq =>
    subst hq
    exact Option.rel_map _ h
  · exact Option.rel_refl Grant.Retuned.refl _

theorem retuned_map {gs : PerPort (Option Grant)} {f : Grant → Grant} (h : ∀ g : Grant, g.Retuned (f g)) :
    Retuned gs (gs.map (Option.map f)) := by
  intro q
  rw [PerPort.get_map]
  exact Option.rel_map _ fun g _ => h g

/-! ### The NORMAL part of a grant changed -/

theorem Grant.changeNormal_of_normal {g : Grant} {n : NormalGrant} (h : g.cls = .normal n) (f : NormalGrant → NormalGrant) :
    g.changeNormal f = { g with cls := .normal (f n) } := by
  simp only [Grant.changeNormal, h]

theorem Grant.changeNormal_of_other {g : Grant} (h : ∀ n, g.cls ≠ .normal n) (f : NormalGrant → NormalGrant) :
    g.changeNormal f = g := by
  unfold Grant.changeNormal
  split
  · next n hn => exact absurd hn (h n)
  · rfl
  · rfl

theorem Grant.retuned_changeNormal {g : Grant} {f : NormalGrant → NormalGrant}
    (h : ∀ n, g.cls = .normal n → (f n).budget ≤ n.budget ∧ (g.delivered < n.budget → g.delivered < (f n).budget)) :
    g.Retuned (g.changeNormal f) := by
  by_cases hn : ∃ n, g.cls = .normal n
  · obtain ⟨n, hn⟩ := hn
    rw [Grant.changeNormal_of_normal hn]
    refine ⟨rfl, rfl, .inl rfl, fun held hm => ?_, fun hh => ?_, fun k hk => ?_⟩
    · rw [hn] at hm
      cases hm
    · rw [hn] at hh
      cases hh
    · rw [hn] at hk
      cases hk
      exact ⟨f n, rfl, h n hn⟩
  · rw [Grant.changeNormal_of_other fun n hg => hn ⟨n, hg⟩]
    exact .refl g

/-- Marks, suspension and the minimum run leave the budget alone. -/
theorem Grant.retuned_of_budget {f : NormalGrant → NormalGrant} (h : ∀ n, (f n).budget = n.budget := by exact fun _ => rfl)
    (g : Grant) : g.Retuned (g.changeNormal f) :=
  Grant.retuned_changeNormal fun n _ => by rw [h n]; exact ⟨Nat.le_refl _, fun h => h⟩

theorem Grant.normal?_eq_some {g : Grant} {n : NormalGrant} : g.normal? = some n ↔ g.cls = .normal n := by
  unfold Grant.normal?
  cases g.cls <;> simp

theorem Grant.normal?_eq_none {g : Grant} : g.normal? = none ↔ ∀ n, g.cls ≠ .normal n := by
  unfold Grant.normal?
  cases g.cls <;> simp

theorem Grant.isMustTake_iff {g : Grant} : g.isMustTake = true ↔ ∃ held, g.cls = .mustTake held := by
  unfold Grant.isMustTake
  cases g.cls <;> simp

theorem Grant.isHygiene_iff {g : Grant} : g.isHygiene = true ↔ g.cls = .hygiene := by
  unfold Grant.isHygiene
  cases g.cls <;> simp

theorem State.bind_normal?_eq_some {s : State} {p : PortId} {n : NormalGrant} :
    (s.grant p).bind Grant.normal? = some n ↔ ∃ g, s.grant p = some g ∧ g.cls = .normal n := by
  simp only [Option.bind_eq_some_iff, Grant.normal?_eq_some]

/-! ### The moves -/

/-- One move of the operations on grants. -/
inductive Move : State → State → Prop
  | raise (s : State) (n : Notice) : Move s (s.raise n)
  | chosen (s : State) : Move s s.chosen
  /-- the resume list, solar-active, the figures and the emergency; the emergency is entered in RUNNING alone -/
  | arbiter (s : State) (a : Arbiter) (hg : a.grants = s.arbiter.grants) (hp : a.ports = s.arbiter.ports)
      (ho : a.overheat = s.arbiter.overheat)
      (he : a.comfortEmergency = true → s.arbiter.comfortEmergency = true ∨ s.mode ≠ .holiday) :
      Move s { s with arbiter := a }
  | retune (s : State) (gs : PerPort (Option Grant)) (h : Retuned s.arbiter.grants gs) :
      Move s { s with arbiter := { s.arbiter with grants := gs } }
  | retire (s : State) (p : PortId) (r : Reason)
      (h : r = .completed → ∀ g, s.grant p = some g → g.cls ≠ .hygiene) : Move s (s.retireHoldingSolar p r)
  /-- the MUST_TAKE grants held or released, where a hold finds no other grant -/
  | hold (s : State) (held : Bool) (h : held = true → ∀ p g, s.grant p = some g → ∃ b, g.cls = .mustTake b) :
      Move s { s with arbiter := { s.arbiter.holdMustTake held with overheat := held } }
  | due (s : State) (h : s.hygiene.state = .clear) : Move s { s with hygiene := { s.hygiene with state := .due } }
  | clean (s : State) (h : s.hygiene.state = .due) : Move s { s with hygiene := { s.hygiene with state := .clear } }
  /-- a hygiene run completed: the Monitor CLEAR, and its grant retired COMPLETED -/
  | complete (s : State) (h : s.hygiene.state = .inProgress) :
      Move s (State.retireAll { s with hygiene := { state := .clear, limit := none } } .completed s.arbiter.hygienePorts)

/-- A row of moves. -/
abbrev Moves : State → State → Prop := ReflTransGen Move

/-- An invariant that every move keeps is kept by a row of them. -/
theorem Moves.keep {P : State → Prop} (hP : ∀ {s t}, Move s t → P s → P t) {s t : State} (h : Moves s t) (hs : P s) :
    P t := by
  induction h with
  | refl => exact hs
  | tail _ m ih => exact hP m ih

/-! ### The operations as moves -/

theorem moves_raise (s : State) (n : Notice) : Moves s (s.raise n) := .single (.raise s n)

theorem moves_raiseIf (s : State) (c : Bool) (n : Notice) : Moves s (s.raiseIf c n) := by
  cases c
  · exact .refl
  · exact moves_raise s n

/-- The Arbiter's own figures changed, the emergency left or cleared. -/
theorem moves_arbiter (s : State) (a : Arbiter) (hg : a.grants = s.arbiter.grants := by rfl)
    (hp : a.ports = s.arbiter.ports := by rfl) (ho : a.overheat = s.arbiter.overheat := by rfl)
    (he : a.comfortEmergency = true → s.arbiter.comfortEmergency = true := by exact id) :
    Moves s { s with arbiter := a } :=
  .single (.arbiter s a hg hp ho fun h => .inl (he h))

theorem moves_changeNormal (s : State) (p : PortId) {f : NormalGrant → NormalGrant}
    (h : ∀ n, (f n).budget = n.budget := by exact fun _ => rfl) : Moves s (s.changeGrant p (Grant.changeNormal f)) :=
  .single (.retune s _ (retuned_set fun g _ => Grant.retuned_of_budget h g))

theorem moves_retireHoldingSolar (s : State) (p : PortId) {r : Reason} (hr : r ≠ .completed) :
    Moves s (s.retireHoldingSolar p r) :=
  .single (.retire s p r fun h => absurd h hr)

theorem moves_foldl {α : Type} (f : State → α → State) (hf : ∀ s a, Moves s (f s a)) : ∀ (l : List α) (s : State),
    Moves s (l.foldl f s)
  | [], _ => .refl
  | a :: l, s => (hf s a).trans (moves_foldl f hf l (f s a))

theorem moves_retireAll (s : State) {r : Reason} (hr : r ≠ .completed) (ps : List PortId) : Moves s (s.retireAll r ps) :=
  moves_foldl _ (fun s p => moves_retireHoldingSolar s p hr) ps s

theorem moves_removeMarks (s : State) : Moves s s.removeMarks :=
  .single (.retune s _ (retuned_map fun g => Grant.retuned_of_budget (g := g)))

theorem moves_pushResume (s : State) (p : PortId) : Moves s (s.pushResume p) := by
  unfold State.pushResume
  dsimp only
  split
  · split
    · exact (moves_retireHoldingSolar s _ (by decide)).trans (moves_arbiter _ _)
    · exact moves_arbiter _ _
  · exact moves_arbiter _ _

theorem moves_suspend (s : State) (p : PortId) : Moves s (s.suspend p) :=
  (moves_changeNormal s p).trans (moves_pushResume _ p)

theorem moves_standAsidePort (s : State) (p : PortId) : Moves s (s.standAsidePort p) := by
  unfold State.standAsidePort
  split
  · exact .refl
  · split
    · exact .refl
    · split
      · exact moves_suspend s p
      · exact moves_changeNormal s p

theorem moves_standAside (s : State) : Moves s s.standAside := moves_foldl _ moves_standAsidePort _ s

theorem allowance_le (st : Store) (a : Arbiter) (p : PortId) (wanted : Nat) : allowance st a p wanted ≤ wanted :=
  Nat.min_le_left _ _

/-- A fresh allowance of at most what is left of the budget (R117). -/
theorem Grant.retuned_resumed {g : Grant} {n : NormalGrant} {fresh : Nat} (hn : g.cls = .normal n) (h0 : fresh ≠ 0)
    (hle : fresh ≤ n.budget - g.delivered) (minRun : Nat) : g.Retuned (g.resumed fresh minRun) := by
  refine Grant.retuned_changeNormal fun k hk => ?_
  rw [hn] at hk
  cases hk
  dsimp only
  omega

theorem moves_resumeGrant (s : State) (p : PortId) : Moves s (s.resumeGrant p) := by
  unfold State.resumeGrant
  split
  · next st g hst hg =>
    split
    · next n hn =>
      dsimp only
      split
      · exact moves_retireHoldingSolar s p (by decide)
      · next ha =>
        refine .single (.retune s _ (retuned_set fun k hk => ?_))
        have same : k = g := Option.some.inj (hk.symm.trans hg)
        subst same
        exact Grant.retuned_resumed (Grant.normal?_eq_some.mp hn) ha (allowance_le ..) _
    · exact .refl
  · exact .refl

theorem moves_popEntries : ∀ (l : List PortId) (s : State), Moves s (State.popEntries l s)
  | [], _ => .refl
  | p :: rest, s =>
    ((moves_arbiter s _).trans (moves_resumeGrant _ p)).trans (moves_popEntries rest _)

theorem moves_popResume (s : State) : Moves s s.popResume := moves_popEntries _ s

theorem moves_clearSolar (s : State) : Moves s s.clearSolar := by
  unfold State.clearSolar
  split
  · exact (((moves_arbiter s _).trans (moves_raise _ _)).trans (moves_removeMarks _)).trans
      (moves_popResume _)
  · exact .refl

theorem moves_productiveDeposit (s : State) : Moves s s.productiveDeposit := by
  unfold State.productiveDeposit
  split
  · exact .refl
  · dsimp only
    split
    · exact moves_arbiter s _
    · split
      · exact (moves_arbiter s _).trans (moves_raise _ .solarChanged)
      · exact ((moves_arbiter s _).trans (moves_raise _ .solarChanged)).trans (moves_standAside _)

theorem moves_retire (s : State) (p : PortId) {r : Reason} (hr : r ≠ .completed) : Moves s (s.retire p r) := by
  unfold State.retire
  split
  · exact .refl
  · dsimp only
    split
    · exact (moves_retireHoldingSolar s p hr).trans (moves_clearSolar _)
    · exact moves_retireHoldingSolar s p hr

/-! ### The report as moves -/

theorem mode_of_running {s : State} {st : Store} (hst : s.store = some st) (hh : st.holiday = false) :
    s.mode = .running := by
  simp [State.mode, hst, hh]

theorem moves_enterEmergency {s : State} (h : s.mode ≠ .holiday) : Moves s s.enterEmergency :=
  (((ReflTransGen.single (.arbiter s { s.arbiter with comfortEmergency := true } rfl rfl rfl fun _ => .inr h)).trans
    (moves_raise _ _)).trans (moves_removeMarks _)).trans (moves_popResume _)

theorem moves_leaveEmergency (s : State) : Moves s s.leaveEmergency := by
  unfold State.leaveEmergency
  dsimp only
  split
  · exact (moves_arbiter s _ (he := by exact nofun)).trans (moves_standAside _)
  · exact moves_arbiter s _ (he := by exact nofun)

theorem moves_compareComfort (s : State) : Moves s s.compareComfort := by
  unfold State.compareComfort
  split
  · exact .refl
  · next st hst =>
    split
    · exact .refl
    · next hh =>
      split
      · split
        · exact .refl
        · refine moves_enterEmergency ?_
          rw [mode_of_running hst (Bool.not_eq_true _ ▸ hh)]
          exact nofun
      · split
        · exact moves_leaveEmergency s
        · exact .refl

/-- The grant table after the grants of some ports have retired. -/
theorem State.grant_retireAll (r : Reason) (q : PortId) : ∀ (ps : List PortId) (s : State),
    (s.retireAll r ps).grant q = if q ∈ ps then none else s.grant q
  | [], s => rfl
  | p :: ps, s => by
    have ih := State.grant_retireAll r q ps (s.retireHoldingSolar p r)
    rw [State.grant_retireHoldingSolar] at ih
    refine ih.trans ?_
    by_cases hq : q = p <;> by_cases hps : q ∈ ps <;> simp [hq, hps]

theorem Arbiter.mem_switchablePorts {a : Arbiter} {p : PortId} :
    p ∈ a.switchablePorts ↔ ∃ g, a.grants.get p = some g ∧ ∀ held, g.cls ≠ .mustTake held := by
  simp only [Arbiter.switchablePorts, List.mem_filter, PortId.mem_all, true_and]
  cases h : a.grants.get p with
  | none => simp
  | some g =>
    simp only [Option.map_some, Option.getD_some, Bool.not_eq_true', Option.some.injEq, exists_eq_left']
    rw [← Bool.not_eq_true, Grant.isMustTake_iff, not_exists]

theorem Arbiter.mem_normalPorts {a : Arbiter} {p : PortId} :
    p ∈ a.normalPorts ↔ ∃ g n, a.grants.get p = some g ∧ g.cls = .normal n := by
  simp only [Arbiter.normalPorts, List.mem_filter, PortId.mem_all, true_and]
  cases h : a.grants.get p with
  | none => simp
  | some g => simp [Option.isSome_iff_exists, Grant.normal?_eq_some]

theorem Arbiter.mem_hygienePorts {a : Arbiter} {p : PortId} :
    p ∈ a.hygienePorts ↔ ∃ g, a.grants.get p = some g ∧ g.cls = .hygiene := by
  simp only [Arbiter.hygienePorts, List.mem_filter, PortId.mem_all, true_and]
  cases h : a.grants.get p with
  | none => simp
  | some g => simp [Grant.isHygiene_iff]

/-- With the switchable grants retired only MUST_TAKE grants are left (R125). -/
theorem State.mustTake_of_switched {s : State} {p : PortId} {g : Grant}
    (h : (s.retireAll .overheat s.arbiter.switchablePorts).grant p = some g) :
    s.grant p = some g ∧ ∃ held, g.cls = .mustTake held := by
  rw [State.grant_retireAll] at h
  split at h
  · cases h
  · next hp =>
    refine ⟨h, ?_⟩
    by_contra hn
    exact hp (Arbiter.mem_switchablePorts.mpr ⟨g, h, fun held hh => hn ⟨held, hh⟩⟩)

theorem moves_setOverheat (s : State) : Moves s s.setOverheat :=
  ((moves_retireAll s (by decide) _).tail (.hold _ true fun _ _ _ hg => (State.mustTake_of_switched hg).2)).trans
    (moves_raise _ _)

theorem moves_clearOverheat (s : State) : Moves s s.clearOverheat :=
  (ReflTransGen.single (.hold s false nofun)).trans (moves_raise _ _)

theorem moves_testOverheat (s : State) : Moves s s.testOverheat := by
  unfold State.testOverheat
  split
  · exact .refl
  · split
    · split
      · exact moves_clearOverheat s
      · exact .refl
    · split
      · exact moves_setOverheat s
      · exact .refl

theorem moves_hygieneLook (s : State) : Moves s s.hygieneLook := by
  unfold State.hygieneLook
  split
  · exact .refl
  · split
    · next h =>
      split
      · exact (ReflTransGen.single (.due s h)).trans (moves_raise _ _)
      · exact .refl
    · next h =>
      split
      · exact (ReflTransGen.single (.clean s h)).trans (moves_raise _ _)
      · exact .refl
    · next h =>
      split
      · exact (moves_raise s .hygieneDone).tail (.complete _ h)
      · exact .refl

/-! ### Expiries and outranking as moves -/

theorem moves_expireMinRun (s : State) (p : PortId) : Moves s (s.expireMinRun p) := by
  unfold State.expireMinRun
  split
  · exact .refl
  · split
    · exact .refl
    · dsimp only
      split
      · exact (moves_changeNormal s p).trans (moves_suspend _ p)
      · exact moves_changeNormal s p

theorem moves_expireSolarIdle (s : State) : Moves s s.expireSolarIdle := by
  unfold State.expireSolarIdle
  split
  · exact moves_clearSolar s
  · exact .refl

theorem moves_expireHygieneLimit (s : State) : Moves s s.expireHygieneLimit := by
  unfold State.expireHygieneLimit
  split
  · exact moves_retireAll s (by decide) _
  · exact .refl

theorem moves_resetGrants (s : State) : Moves s s.resetGrants :=
  (((moves_retireAll s (by decide) _).trans (moves_arbiter _ _ (he := by exact nofun))).trans (moves_raiseIf _ _ _)).trans
    (moves_testOverheat _)

end Sys2Proof.Machine
end

section
/-!
PROOF. The usable readings in height order, and the list rebuilt from them (R34 to R36).
-/

namespace Sys2Proof.Machine

/-! ### The lowest probe -/

theorem find?_lowest {α : Type} {rank : α → Nat} {q : α → Bool} {a : α} : ∀ {l : List α},
    l.Pairwise (rank · < rank ·) → l.find? q = some a → q a = true ∧ ∀ b ∈ l, q b = true → rank a ≤ rank b
  | [], _, h => by cases h
  | x :: l, hp, h => by
    obtain ⟨hx, hl⟩ := List.pairwise_cons.mp hp
    rcases List.find?_cons_eq_some.mp h with ⟨hq, rfl⟩ | ⟨hq, hf⟩
    · exact ⟨hq, List.forall_mem_cons.mpr ⟨fun _ => Nat.le_refl _, fun b hb _ => (hx b hb).le⟩⟩
    · obtain ⟨ha, hmin⟩ := find?_lowest hl hf
      refine ⟨ha, List.forall_mem_cons.mpr ⟨fun hqx => ?_, hmin⟩⟩
      simp [hqx] at hq

theorem ProbeId.all_ascending : ProbeId.all.Pairwise (ProbeId.number · < ProbeId.number ·) := by decide

theorem ProbeId.number_injective : ∀ n k : ProbeId, n.number = k.number → n = k := by
  intro n k
  cases n <;> cases k <;> simp [ProbeId.number]

/-- The probe found first in number order is the lowest of those that qualify. -/
theorem ProbeId.find?_all_iff {q : ProbeId → Bool} {n : ProbeId} :
    ProbeId.all.find? q = some n ↔ q n = true ∧ ∀ k, q k = true → n.number ≤ k.number := by
  constructor
  · intro h
    obtain ⟨hn, hmin⟩ := find?_lowest ProbeId.all_ascending h
    exact ⟨hn, fun k => hmin k (ProbeId.mem_all k)⟩
  · rintro ⟨hn, hmin⟩
    cases h : ProbeId.all.find? q with
    | none => exact absurd hn (List.find?_eq_none.mp h n (ProbeId.mem_all n))
    | some k =>
      obtain ⟨hk, hkmin⟩ := find?_lowest ProbeId.all_ascending h
      exact congrArg some (ProbeId.number_injective _ _ (Nat.le_antisymm (hkmin n (ProbeId.mem_all n) hn) (hmin k hk)))

/-! ### Readings placed by height -/

/-- Readings in rising order of height. -/
def Ascending (l : List (Nat × Nat)) : Prop := (l.map Prod.fst).Pairwise (· < ·)

theorem ascending_cons {a : Nat × Nat} {l : List (Nat × Nat)} :
    Ascending (a :: l) ↔ (∀ b ∈ l, a.1 < b.1) ∧ Ascending l := by
  simp only [Ascending, List.map_cons, List.pairwise_cons, List.forall_mem_map]

theorem Ascending.lt_of_append {l m : List (Nat × Nat)} {a b : Nat × Nat} (h : Ascending (l ++ m)) (ha : a ∈ l)
    (hb : b ∈ m) : a.1 < b.1 := by
  rw [Ascending, List.map_append, List.pairwise_append] at h
  exact h.2.2 a.1 (List.mem_map_of_mem ha) b.1 (List.mem_map_of_mem hb)

/-- A reading is placed unless its height is taken (R35). -/
theorem mem_placeReading {h r : Nat} {a : Nat × Nat} : ∀ {l : List (Nat × Nat)}, Ascending l →
    (a ∈ placeReading h r l ↔ a ∈ l ∨ a = (h, r) ∧ h ∉ l.map Prod.fst)
  | [], _ => by simp [placeReading]
  | x :: l, hl => by
    obtain ⟨hx, hl⟩ := ascending_cons.mp hl
    unfold placeReading
    split
    · next hlt =>
      have free : h ∉ (x :: l).map Prod.fst := by
        intro hm
        obtain ⟨b, hb, rfl⟩ := List.mem_map.mp hm
        rcases List.mem_cons.mp hb with rfl | hb
        · omega
        · have := hx b hb
          omega
      rw [List.mem_cons, or_comm]
      simp only [free, not_false_eq_true, and_true]
    · split
      · next heq => simp [heq]
      · next hne =>
        have ih := mem_placeReading (h := h) (r := r) (a := a) hl
        simp only [List.mem_cons, ih, List.map_cons, not_or, hne, not_false_eq_true, true_and, or_assoc]

theorem placeReading_ascending {h r : Nat} : ∀ {l : List (Nat × Nat)}, Ascending l → Ascending (placeReading h r l)
  | [], _ => by simp [placeReading, Ascending]
  | x :: l, hl => by
    obtain ⟨hx, hl'⟩ := ascending_cons.mp hl
    unfold placeReading
    split
    · next hlt =>
      refine ascending_cons.mpr ⟨List.forall_mem_cons.mpr ⟨hlt, fun b hb => hlt.trans (hx b hb)⟩, hl⟩
    · split
      · exact hl
      · next hge hne =>
        refine ascending_cons.mpr ⟨fun b hb => ?_, placeReading_ascending hl'⟩
        rcases (mem_placeReading hl').mp hb with hb | ⟨rfl, -⟩
        · exact hx b hb
        · dsimp only
          omega

theorem placeReading_length {h r : Nat} : ∀ l : List (Nat × Nat), (placeReading h r l).length ≤ l.length + 1
  | [] => Nat.le_refl _
  | x :: l => by
    unfold placeReading
    split
    · exact Nat.le_refl _
    · split
      · exact Nat.le_succ _
      · exact Nat.succ_le_succ (placeReading_length l)

/-- Readings placed one after another: of those at one height the first stands. -/
theorem foldl_placeReading (xs : List (Nat × Nat)) : ∀ {l : List (Nat × Nat)}, Ascending l →
    Ascending (xs.foldl (fun l r => placeReading r.1 r.2 l) l)
      ∧ (xs.foldl (fun l r => placeReading r.1 r.2 l) l).length ≤ xs.length + l.length
      ∧ ∀ a, a ∈ xs.foldl (fun l r => placeReading r.1 r.2 l) l ↔
        a ∈ l ∨ a.1 ∉ l.map Prod.fst ∧ xs.find? (fun x => x.1 == a.1) = some a := by
  induction xs with
  | nil => intro l hl; simp [hl]
  | cons x xs ih =>
    intro l hl
    obtain ⟨asc, len, mem⟩ := ih (placeReading_ascending (h := x.1) (r := x.2) hl)
    have step := placeReading_length (h := x.1) (r := x.2) l
    refine ⟨asc, by simp only [List.foldl_cons, List.length_cons]; omega, fun a => ?_⟩
    have taken : a.1 ∈ (placeReading x.1 x.2 l).map Prod.fst ↔ a.1 ∈ l.map Prod.fst ∨ a.1 = x.1 := by
      simp only [List.mem_map, mem_placeReading hl]
      constructor
      · rintro ⟨b, hb | ⟨rfl, -⟩, hba⟩
        · exact .inl ⟨b, hb, hba⟩
        · exact .inr hba.symm
      · rintro (⟨b, hb, hba⟩ | hax)
        · exact ⟨b, .inl hb, hba⟩
        · by_cases hfree : x.1 ∈ l.map Prod.fst
          · obtain ⟨b, hb, hbx⟩ := List.mem_map.mp hfree
            exact ⟨b, .inl hb, hbx.trans hax.symm⟩
          · refine ⟨(x.1, x.2), .inr ⟨rfl, ?_⟩, hax.symm⟩
            simpa [List.mem_map] using hfree
    rw [List.foldl_cons, mem, mem_placeReading hl, taken, List.find?_cons]
    obtain ⟨h, r⟩ := x
    obtain ⟨k, d⟩ := a
    by_cases hk : h = k
    · subst hk
      simp only [beq_self_eq_true, or_true, not_true_eq_false, false_and, or_false, Option.some.injEq, Prod.mk.injEq,
        true_and]
      exact or_congr Iff.rfl ⟨fun ⟨hd, hfree⟩ => ⟨hfree, hd.symm⟩, fun ⟨hfree, hd⟩ => ⟨hd.symm, hfree⟩⟩
    · have other : (h == k) = false := by simpa using hk
      simp only [other, Prod.mk.injEq, Ne.symm hk, false_and, or_false]

/-- What the usable readings hold: each height once, in rising order, with the reading of the lowest usable probe there
(R34, R35). -/
theorem State.usableReadings_spec (s : State) :
    Ascending s.usableReadings ∧ s.usableReadings.length ≤ 8
      ∧ ∀ h r, (h, r) ∈ s.usableReadings ↔
        ∃ n, (s.probes.get n).usable = some (h, r)
          ∧ ∀ k d, (s.probes.get k).usable = some (h, d) → n.number ≤ k.number := by
  obtain ⟨asc, len, mem⟩ := foldl_placeReading (ProbeId.all.filterMap fun n => (s.probes.get n).usable)
    (l := []) (by simp [Ascending])
  have atMost := List.length_filterMap_le (fun n => (s.probes.get n).usable) ProbeId.all
  refine ⟨asc, len.trans atMost, fun h r => (mem (h, r)).trans ?_⟩
  simp only [List.not_mem_nil, List.map_nil, not_false_eq_true, true_and, false_or, List.find?_filterMap,
    Option.bind_eq_some_iff, ProbeId.find?_all_iff]
  constructor
  · rintro ⟨n, ⟨-, hmin⟩, hn⟩
    exact ⟨n, hn, fun k d hk => hmin k (by simp [hk])⟩
  · rintro ⟨n, hn, hmin⟩
    refine ⟨n, ⟨by simp [hn], fun k hk => ?_⟩, hn⟩
    obtain ⟨⟨h', d⟩, hkd⟩ := Option.isSome_iff_exists.mp (Option.isSome_of_any hk)
    obtain rfl : h' = h := by simpa [hkd] using hk
    exact hmin k d hkd

theorem Probe.usable_eq_some {p : Probe} {h r : Nat} :
    p.usable = some (h, r) ↔
      (p.state = .seeking ∨ p.state = .locked) ∧ ∃ c, p.config = some c ∧ c.height = h ∧ p.last = some r := by
  unfold Probe.usable
  split
  · next hs =>
    split
    · next c k hc hk => simp [hs, hc, hk]
    · next hnone =>
      constructor
      · exact nofun
      · rintro ⟨-, c, hc, -, hl⟩
        exact absurd hl (hnone c r hc)
  · next hs => simp [hs]

/-- Some reading stands at the height of every usable probe (R35). -/
theorem State.height_mem_usableReadings {s : State} {n : ProbeId} {h r : Nat} (hn : (s.probes.get n).usable = some (h, r)) :
    h ∈ s.usableReadings.map Prod.fst := by
  cases hf : ProbeId.all.find? fun k => (s.probes.get k).usable.any fun x => x.1 == h with
  | none => exact absurd (by simp [hn]) (List.find?_eq_none.mp hf n (ProbeId.mem_all n))
  | some k =>
    obtain ⟨hk, hmin⟩ := ProbeId.find?_all_iff.mp hf
    obtain ⟨⟨h', d⟩, hkd⟩ := Option.isSome_iff_exists.mp (Option.isSome_of_any hk)
    obtain rfl : h' = h := by simpa [hkd] using hk
    exact List.mem_map.mpr ⟨(h', d), (s.usableReadings_spec.2.2 h' d).mpr
      ⟨k, hkd, fun j e hj => hmin j (by simp [hj])⟩, rfl⟩

/-! ### The rebuilt list -/

section
variable {volume age : Nat}

/-- A rebuilt list from a base below V: the rest of V, a record or fewer for each reading, each at its reading (R35). -/
theorem rebuildFrom_spec : ∀ (rs : List (Nat × Nat)) (base : Nat), rs ≠ [] → base < volume → Ascending rs →
    (∀ r ∈ rs, r.1 ≤ volume) →
    volumeOf (rebuildFrom volume age base rs) = volume - base ∧ (rebuildFrom volume age base rs).length ≤ rs.length
      ∧ ∀ x ∈ rebuildFrom volume age base rs, 1 ≤ x.volume ∧ x.age = age ∧ x.dwell = 0 ∧ ∃ r ∈ rs, x.temp = r.2
  | [], _, h, _, _, _ => absurd rfl h
  | [r], base, _, hb, _, _ => by
    simp only [rebuildFrom, volumeOf_cons, volumeOf_nil, List.forall_mem_singleton, List.length_singleton]
    exact ⟨rfl, Nat.le_refl _, by omega, trivial, trivial, r, by simp, rfl⟩
  | r :: t :: rest, base, _, hb, ha, hv => by
    obtain ⟨hr, ha⟩ := ascending_cons.mp ha
    obtain ⟨hrv, hv⟩ := List.forall_mem_cons.mp hv
    have rt : r.1 < t.1 := hr t (by simp)
    have tv : t.1 ≤ volume := hv t (by simp)
    simp only [rebuildFrom]
    split
    · next hlow =>
      obtain ⟨vol, len, recs⟩ := rebuildFrom_spec (t :: rest) ((r.1 + t.1) / 2) (by simp) (by omega) ha hv
      refine ⟨?_, Nat.succ_le_succ len, List.forall_mem_cons.mpr ⟨⟨by dsimp only; omega, rfl, rfl, r, by simp, rfl⟩, ?_⟩⟩
      · rw [volumeOf_cons, vol]
        dsimp only
        omega
      · intro x hx
        obtain ⟨h1, h2, h3, q, hq, h4⟩ := recs x hx
        exact ⟨h1, h2, h3, q, List.mem_cons_of_mem _ hq, h4⟩
    · obtain ⟨vol, len, recs⟩ := rebuildFrom_spec (t :: rest) base (by simp) hb ha hv
      refine ⟨vol, len.trans (Nat.le_succ _), fun x hx => ?_⟩
      obtain ⟨h1, h2, h3, q, hq, h4⟩ := recs x hx
      exact ⟨h1, h2, h3, q, List.mem_cons_of_mem _ hq, h4⟩

theorem rebuildFrom_ne_nil {rs : List (Nat × Nat)} {base : Nat} (hrs : rs ≠ []) (hb : base < volume) (ha : Ascending rs)
    (hv : ∀ r ∈ rs, r.1 ≤ volume) : rebuildFrom volume age base rs ≠ [] := by
  have vol := (rebuildFrom_spec (age := age) rs base hrs hb ha hv).1
  intro he
  rw [he, volumeOf_nil] at vol
  omega

/-- The lowest reading stands from the base up to its mid-height with the next, or to V (R35). -/
theorem stratumAt_rebuildFrom_lowest {h r base z : Nat} {above : List (Nat × Nat)} (hbz : base ≤ z)
    (htop : z < match above.head? with | some b => (h + b.1) / 2 | none => volume) :
    (stratumAt (z - base) (rebuildFrom volume age base ((h, r) :: above))).map (·.temp) = some r := by
  cases above with
  | nil => rfl
  | cons t above =>
    have top : z < (h + t.1) / 2 := htop
    simp only [rebuildFrom, if_pos (hbz.trans_lt top)]
    rw [stratumAt_bottom _ (by dsimp only; omega)]
    rfl

/-- Every reading stands between its mid-heights, from the base up (R35). -/
theorem stratumAt_rebuildFrom {h r z : Nat} {above : List (Nat × Nat)} : ∀ (below : List (Nat × Nat)) (base : Nat),
    base < volume → Ascending (below ++ (h, r) :: above) → (∀ x ∈ below ++ (h, r) :: above, x.1 ≤ volume) → base ≤ z →
    (∀ b, below.getLast? = some b → (b.1 + h) / 2 ≤ z) →
    (z < match above.head? with | some b => (h + b.1) / 2 | none => volume) →
    (stratumAt (z - base) (rebuildFrom volume age base (below ++ (h, r) :: above))).map (·.temp) = some r
  | [], base, _, _, _, hbz, _, htop => stratumAt_rebuildFrom_lowest hbz htop
  | b :: below, base, hbv, ha, hv, hbz, hbot, htop => by
    rw [List.cons_append] at ha hv ⊢
    obtain ⟨hb, ha⟩ := ascending_cons.mp ha
    obtain ⟨-, hv⟩ := List.forall_mem_cons.mp hv
    obtain ⟨y, rest, hl⟩ : ∃ y rest, below ++ (h, r) :: above = y :: rest := by
      cases below with
      | nil => exact ⟨(h, r), above, rfl⟩
      | cons y below => exact ⟨y, below ++ (h, r) :: above, rfl⟩
    have hy : y ∈ below ++ (h, r) :: above := by rw [hl]; simp
    have by_ : b.1 < y.1 := hb y hy
    have yv : y.1 ≤ volume := hv y hy
    -- the mid-height above `b` is no higher than the one below the reading in question
    have mid_le : (b.1 + y.1) / 2 ≤ z := by
      cases below with
      | nil =>
        obtain rfl : (h, r) = y := (List.cons.inj hl).1
        exact hbot b rfl
      | cons y' below =>
        obtain rfl : y' = y := (List.cons.inj hl).1
        obtain ⟨c, hc⟩ : ∃ c, (y' :: below).getLast? = some c := by simp [List.getLast?_cons]
        have last := hbot c (by rw [List.getLast?_cons, hc]; rfl)
        have hcb : b.1 < c.1 := hb c (List.mem_append_left _ (List.mem_of_getLast? hc))
        have hyh : y'.1 < h := ha.lt_of_append (a := y') (b := (h, r)) (by simp) (by simp)
        omega
    have hbot' : ∀ c, below.getLast? = some c → (c.1 + h) / 2 ≤ z := fun c hc =>
      hbot c (by rw [List.getLast?_cons, hc]; rfl)
    have ih := fun base => stratumAt_rebuildFrom (h := h) (r := r) (z := z) (above := above) below base
    have nonempty := fun base hb => rebuildFrom_ne_nil (age := age) (rs := below ++ (h, r) :: above) (base := base)
      (by simp) hb ha hv
    rw [hl] at ih nonempty ha hv ⊢
    simp only [rebuildFrom]
    split
    · next hlow =>
      rw [stratumAt_above (by dsimp only; omega) (nonempty _ (by omega))]
      have shift : z - base - ((b.1 + y.1) / 2 - base) = z - (b.1 + y.1) / 2 := by omega
      dsimp only
      rw [shift]
      exact ih _ (by omega) ha hv mid_le hbot' htop
    · exact ih base hbv ha hv hbz hbot' htop

end

/-! ### RESEED -/

theorem State.reseedRequest_eq {s : State} {st : Store} (hst : s.store = some st) (h : s.usableReadings ≠ []) :
    s.reseedRequest = (State.modelChanged { s with
        store := some { st with strata := reseedList st.cfg s.usableReadings st.strata }
        probes := s.probes.map Probe.forgetCorrections }).answer .ok
      (reseedList st.cfg s.usableReadings st.strata).length := by
  have some_ : s.usableReadings.isEmpty = false := by simpa using h
  simp only [State.reseedRequest, State.onStore, hst, some_]
  rfl

theorem State.reseedRequest_none {s : State} {st : Store} (hst : s.store = some st) (h : s.usableReadings = []) :
    s.reseedRequest = s.answer .noProbes := by
  simp only [State.reseedRequest, State.onStore, hst, h, List.isEmpty_nil, if_true]

theorem exec_reseed (ch : Channel) (p0 p1 : Byte) (s : State) :
    exec (.reseed ch p0 p1) s = .next (s.shortRequest 11 ch p0 p1 State.reseedRequest) := rfl

/-- Settles O22: the readings are those placed one by one in number order, and the rebuilt list is read at a height by
going up through its mid-heights. -/
theorem reseedRebuildsFromUsableProbes : Obligations.ReseedRebuildsFromUsableProbes := by
  refine ⟨fun s t p0 p1 st h hst => ⟨fun hnone => ?refused, fun hsome => ?rebuilt⟩, fun s h r hm => ?lowest,
    fun s n c hc hl hs => ?present, fun s => s.usableReadings_spec.1, fun volume age rs hrs hv ha hle => ?spec,
    fun volume age h r below above ha hv hle => ?between⟩
  case refused =>
    rw [exec_reseed, State.shortRequest_supervisor 11 (by decide) h, State.reseedRequest_none hst hnone]
    rfl
  case rebuilt =>
    rw [exec_reseed, State.shortRequest_supervisor 11 (by decide) h, State.reseedRequest_eq hst hsome]
    rfl
  case lowest =>
    obtain ⟨n, hn, hmin⟩ := (s.usableReadings_spec.2.2 h r).mp hm
    obtain ⟨hs, c, hc, hh, hl⟩ := Probe.usable_eq_some.mp hn
    refine ⟨n, c, hc, hh, hl, hs, fun k d hd hdh hkl hks => ?_⟩
    obtain ⟨q, hq⟩ := Option.ne_none_iff_exists'.mp hkl
    exact hmin k q (Probe.usable_eq_some.mpr ⟨hks, d, hd, hdh, hq⟩)
  case present =>
    obtain ⟨q, hq⟩ := Option.ne_none_iff_exists'.mp hl
    exact s.height_mem_usableReadings (Probe.usable_eq_some.mpr ⟨hs, c, hc, rfl, hq⟩)
  case spec => exact rebuildFrom_spec rs 0 hrs hv ha hle
  case between =>
    intro bottom top z hbot htop
    refine stratumAt_rebuildFrom below 0 hv ha hle (Nat.zero_le _) (fun b hb => ?_) htop
    have low : bottom = (b.1 + h) / 2 := by simp only [bottom, hb]
    exact low ▸ hbot

end Sys2Proof.Machine
end

section
/-!
PROOF. Each operation of the Store Model leaves a sound store sound: its list normal, of volume V, of 1 to 32 records, and
every figure in its range (R19, R20, R29).
-/

namespace Sys2Proof.Machine

/-! ### A record in its range -/

theorem maxAge_le {b : Nat} : ∀ {l : List Stratum}, (∀ x ∈ l, x.age ≤ b) → maxAge l ≤ b
  | [], _ => Nat.zero_le _
  | s :: l, h => by
    obtain ⟨hs, hl⟩ := List.forall_mem_cons.mp h
    exact max_le hs (maxAge_le hl)

theorem minDwell_le {s : Stratum} : ∀ l : List Stratum, minDwell (s :: l) ≤ s.dwell
  | [] => Nat.le_refl _
  | _ :: l => (Nat.min_le_right _ _).trans (minDwell_le l)

theorem Stratum.InRange.lasting : Lasting Stratum.InRange where
  volume _ h := h.1
  merge a b ha hb := by
    obtain ⟨hv, -, hage, hdwell⟩ := ha
    obtain ⟨-, -, hage', -⟩ := hb
    exact ⟨hv.trans (Nat.le_add_right _ _), clampTemp_le _, max_le hage hage', (Nat.min_le_left _ _).trans hdwell⟩
  part x y hy hv _ ht ha hd := by
    obtain ⟨-, htemp, hage, hdwell⟩ := hy
    exact ⟨hv, ht ▸ htemp, ha ▸ hage, hd ▸ hdwell⟩

/-- A list that normalization may be applied to: volume V, at most 32 records, each in its range (R19, R20). -/
abbrev Raw (volume : Nat) (l : List Stratum) : Prop := Held Stratum.InRange volume 32 l

theorem Store.Sound.raw {st : Store} (h : st.Sound) : Raw st.cfg.volume st.strata := by
  obtain ⟨-, vol, ⟨-, len⟩, -, recs, -, -⟩ := h
  exact ⟨vol, len, recs⟩

theorem Store.Sound.cfg_inRange {st : Store} (h : st.Sound) : st.cfg.InRange := h.1

theorem StoreConfig.InRange.volume_pos {c : StoreConfig} (h : c.InRange) : 1000 ≤ c.volume := h.1.1

/-- A store with a normal list of volume V in range in place of its own is sound. -/
theorem Store.Sound.withList {st : Store} (h : st.Sound) {l : List Stratum} (hl : Raw st.cfg.volume l)
    (hn : NormalList st.cfg.mergeBand st.cfg.minStratum l) : Store.Sound { st with strata := l } := by
  obtain ⟨cfg, -, -, -, -, mains, ambient⟩ := h
  have some_ : l ≠ [] := by
    rintro rfl
    have := hl.volume
    have := cfg.volume_pos
    simp only [volumeOf_nil] at *
    omega
  exact ⟨cfg, hl.volume, ⟨List.length_pos_iff.mpr some_, hl.length⟩, hn, hl.records, mains, ambient⟩

theorem normalize_normal (cfg : StoreConfig) (l : List Stratum) :
    NormalList cfg.mergeBand cfg.minStratum (cfg.normalize l) := (normalize_spec _ _ l).2.2.2

theorem Store.Sound.normalized {st : Store} (h : st.Sound) {l : List Stratum} (hl : Raw st.cfg.volume l) :
    Store.Sound { st with strata := st.cfg.normalize l } :=
  h.withList (hl.normalize Stratum.InRange.lasting) (normalize_normal _ _)

/-! ### The operations -/

section
variable {st : Store} (h : st.Sound)
include h

theorem Store.Sound.lossStep : Store.Sound { st with strata := lossStep st.cfg st.ambient st.strata } :=
  h.normalized (h.raw.map _ (fun _ hx => ⟨hx.1, clampTempInt_le _, hx.2.2⟩) fun _ => rfl)

theorem Store.Sound.correct (c : Correction) : Store.Sound { st with strata := correctList st.cfg c st.strata } :=
  h.normalized (h.raw.changeAt _ _ (fun _ hx => ⟨hx.1, clampTempInt_le _, hx.2.2⟩) fun _ => rfl)

end

theorem hygieneMinute_volume (cfg : StoreConfig) (x : Stratum) : (hygieneMinute cfg x).volume = x.volume := by
  unfold hygieneMinute
  split <;> rfl

theorem hygieneMinute_inRange (cfg : StoreConfig) {x : Stratum} (h : x.InRange) : (hygieneMinute cfg x).InRange := by
  obtain ⟨hv, ht, ha, hd⟩ := h
  unfold hygieneMinute
  split
  · refine ⟨hv, ht, ?_, Nat.min_le_right _ _⟩
    dsimp only
    split
    · exact Nat.zero_le _
    · exact ha
  · exact ⟨hv, ht, Nat.min_le_right _ _, Nat.zero_le _⟩

theorem minuteFrom_raw (cfg : StoreConfig) : ∀ (base : Nat) {l : List Stratum}, (∀ x ∈ l, x.InRange) →
    volumeOf (minuteFrom cfg base l) = volumeOf l ∧ (minuteFrom cfg base l).length = l.length
      ∧ ∀ x ∈ minuteFrom cfg base l, x.InRange
  | _, [], h => ⟨rfl, rfl, h⟩
  | base, s :: l, h => by
    obtain ⟨hs, hl⟩ := List.forall_mem_cons.mp h
    obtain ⟨vol, len, recs⟩ := minuteFrom_raw cfg (base + s.volume) hl
    have first : (if cfg.hygieneFloor < base + s.volume then hygieneMinute cfg s else s).volume = s.volume := by
      split
      · exact hygieneMinute_volume cfg s
      · rfl
    refine ⟨by rw [minuteFrom, volumeOf_cons, volumeOf_cons, first, vol], congrArg (· + 1) len,
      List.forall_mem_cons.mpr ⟨?_, recs⟩⟩
    split
    · exact hygieneMinute_inRange cfg hs
    · exact hs

theorem Store.Sound.minuteUpdate {st : Store} (h : st.Sound) :
    Store.Sound { st with strata := minuteUpdate st.cfg st.strata } := by
  obtain ⟨vol, len, recs⟩ := minuteFrom_raw st.cfg 0 h.raw.records
  exact h.normalized ⟨vol.trans h.raw.volume, len.le.trans h.raw.length, recs⟩

/-- A draw of 1 to V dL leaves room for the mains water that comes in (R60). -/
theorem Store.Sound.draw {st : Store} (h : st.Sound) {volume : Nat} (h1 : 1 ≤ volume) (h2 : volume ≤ st.cfg.volume) :
    Store.Sound { st with strata := (drawList st.cfg st.mains volume st.strata).strata } := by
  refine h.normalized ?_
  obtain ⟨roomVol, roomLen, -, -⟩ := makeRoom_spec 1 (by omega) st.strata
  have roomRecords := Stratum.InRange.lasting.makeRoom 1 h.raw.records
  rw [h.raw.volume] at roomVol
  generalize (makeRoom 1 st.strata).1 = room at roomVol roomLen roomRecords ⊢
  obtain ⟨keptVol, offVol, -, len⟩ := cut_spec (volumeOf room - volume) room (Nat.sub_le _ _)
  obtain ⟨keptRecords, -⟩ := Stratum.InRange.lasting.cut (volumeOf room - volume) roomRecords
  have offSome : (cut (volumeOf room - volume) room).2 ≠ [] := by
    intro he
    rw [he, volumeOf_nil] at offVol
    omega
  have offLen := List.length_pos_iff.mpr offSome
  have mains : st.mains ≤ 4000 := h.2.2.2.2.2.1
  refine ⟨?_, ?_, List.forall_mem_cons.mpr ⟨⟨h1, ?_, Nat.zero_le _, Nat.zero_le _⟩, keptRecords⟩⟩
  · rw [volumeOf_cons]
    dsimp only
    omega
  · rw [List.length_cons]
    omega
  · dsimp only
    omega

theorem depositList_normal {cfg : StoreConfig} (e : Entry) (q supply : Nat) {l : List Stratum}
    (h : NormalList cfg.mergeBand cfg.minStratum l) :
    NormalList cfg.mergeBand cfg.minStratum (depositList cfg e q supply l).1 := by
  unfold depositList
  split
  · unfold coilDeposit
    split
    · exact h
    · exact normalize_normal cfg _
  · unfold lanceDeposit
    dsimp only
    split
    · exact h
    · exact normalize_normal cfg _
  · unfold elementDeposit
    split
    · exact h
    · exact normalize_normal cfg _

theorem Store.Sound.deposit {st : Store} (h : st.Sound) {e : Entry} (he : e.InStore st.cfg.volume) (q supply : Nat) :
    Store.Sound { st with strata := (depositList st.cfg e q supply st.strata).1 } := by
  refine h.withList (h.raw.depositList Stratum.InRange.lasting (Nat.le_refl _) he ?mix ?heat ?new)
    (depositList_normal e q supply h.2.2.2.1)
  case mix =>
    intro zone hsome hzone
    refine ⟨volumeOf_pos hsome fun x hx => (hzone x hx).1, clampTemp_le _, maxAge_le fun x hx => (hzone x hx).2.2.1, ?_⟩
    obtain ⟨x, rest, rfl⟩ := List.exists_cons_of_ne_nil hsome
    exact (minDwell_le rest).trans (hzone x (by simp)).2.2.2
  case heat => exact fun x hx => ⟨hx.1, clampTemp_le _, hx.2.2⟩
  case new => exact fun volume parts hv hp => ⟨hv, clampTemp_le _, maxAge_le fun x hx => (hp x hx).2.2.1, Nat.zero_le _⟩

/-- A rebuild from readings in range at rising heights of the store (R35). -/
theorem Store.Sound.reseed {st : Store} (h : st.Sound) {rs : List (Nat × Nat)} (hrs : rs ≠ []) (hlen : rs.length ≤ 8)
    (ha : Ascending rs) (hr : ∀ r ∈ rs, r.1 ≤ st.cfg.volume ∧ r.2 ≤ 11000) :
    Store.Sound { st with strata := reseedList st.cfg rs st.strata } := by
  have pos := h.cfg_inRange.volume_pos
  obtain ⟨vol, len, recs⟩ := rebuildFrom_spec (age := maxAge st.strata) rs 0 hrs (by omega) ha fun r hm => (hr r hm).1
  refine h.normalized ⟨vol, by omega, fun x hx => ?_⟩
  obtain ⟨hv, hage, hdwell, r, hm, htemp⟩ := recs x hx
  refine ⟨hv, htemp ▸ (hr r hm).2, hage ▸ maxAge_le fun y hy => (h.raw.records y hy).2.2.1, by omega⟩

/-! ### The start of a store -/

theorem clamp_bounds {lo hi : Nat} (h : lo ≤ hi) (n : Nat) : lo ≤ clamp lo hi n ∧ clamp lo hi n ≤ hi :=
  ⟨Nat.le_max_left _ _, max_le h (Nat.min_le_right _ _)⟩

theorem tune_bounds {default lo hi : Nat} (h1 : lo ≤ default) (h2 : default ≤ hi) (n : Nat) :
    lo ≤ tune default lo hi n ∧ tune default lo hi n ≤ hi := by
  unfold tune
  split
  · exact ⟨h1, h2⟩
  · exact clamp_bounds (h1.trans h2) n

/-- A tuned record whose V is in range and whose geometry fits is in range (R178). -/
theorem StoreConfig.tuned_inRange {c : StoreConfig} (h1 : 1000 ≤ c.volume) (h2 : c.volume ≤ 15000)
    (hf : c.tuned.fits = true) : c.tuned.InRange := by
  simp only [StoreConfig.fits, Bool.and_eq_true, decide_eq_true_eq] at hf
  obtain ⟨⟨⟨⟨⟨thin, target⟩, floor⟩, aux⟩, hot⟩, port⟩ := hf
  have thinBounds := tune_bounds (default := 20) (lo := 10) (hi := 500) (by decide) (by decide) c.minStratum
  exact ⟨⟨h1, h2⟩, (clamp_bounds (Nat.zero_le _) _).2, tune_bounds (by decide) (by decide) _,
    tune_bounds (by decide) (by decide) _, tune_bounds (by decide) (by decide) _, ⟨thinBounds.1, thinBounds.2, thin⟩,
    (tune_bounds (by decide) (by decide) _).2, (tune_bounds (by decide) (by decide) _).2,
    (clamp_bounds (Nat.zero_le _) _).2, tune_bounds (by decide) (by decide) _, tune_bounds (by decide) (by decide) _,
    tune_bounds (by decide) (by decide) _, target, hot, tune_bounds (by decide) (by decide) _,
    tune_bounds (by decide) (by decide) _, (tune_bounds (by decide) (by decide) _).2,
    tune_bounds (by decide) (by decide) _, tune_bounds (by decide) (by decide) _, tune_bounds (by decide) (by decide) _,
    tune_bounds (by decide) (by decide) _, floor, port, aux, tune_bounds (by decide) (by decide) _⟩

theorem Store.start_sound {cfg : StoreConfig} (h : cfg.InRange) (holiday : Bool) : (Store.start cfg holiday).Sound := by
  have pos := h.volume_pos
  obtain ⟨-, initial, -, -, -, -, mains, ambient, -⟩ := id h
  refine ⟨h, rfl, ⟨Nat.le_refl _, (by decide : 1 ≤ 32)⟩, ⟨trivial, .inl (Nat.le_refl _)⟩, ?_, mains, ambient⟩
  simp only [Store.start, List.forall_mem_singleton]
  exact ⟨by dsimp only; omega, by dsimp only; omega, Nat.zero_le _, Nat.zero_le _⟩

end Sys2Proof.Machine
end

section
/-!
PROOF. Everything a command may do to the blocks, as a row of acts from a short list. The proof of an invariant goes through
the list; what stands on it, and which commands touch the water or the probe records, is proved here once.
-/

namespace Sys2Proof.Machine

open Relation (ReflTransGen)

/-! ### The correction of a reading -/

/-- The amount of a correction and whether it was clipped, for a difference d (R153). -/
def Probe.correction (p : Probe) (cfg : ProbeConfig) (d : Int) : Int × Bool :=
  clipCorrection p.cumulative (roundDivInt (-d) (2 ^ cfg.shift)) cfg.bound

/-- The record of a probe with its correction counted (R152, R153). -/
def Probe.corrected (cfg : ProbeConfig) (d : Int) (p : Probe) : Probe :=
  { p with
    state := .seeking, agree := 0, cumulative := p.cumulative + (p.correction cfg d).1
    limited := if (p.correction cfg d).2 then p.limited + 1 else 0 }

/-- The state with a correction counted and sent (R153). -/
def State.sendsCorrection (s : State) (n : ProbeId) (cfg : ProbeConfig) (d : Int) : State :=
  (s.changeProbe n (Probe.corrected cfg d)).sendCorrection cfg.height ((s.probes.get n).correction cfg d).1

/-- A correction, and the lockout a third clip in a row leads to (R153, R155). -/
theorem State.correct_eq (s : State) (n : ProbeId) (cfg : ProbeConfig) (d : Int) :
    s.correct n cfg d =
      if (Probe.corrected cfg d (s.probes.get n)).limited = 3 then
        (if ((s.probes.get n).correction cfg d).1 = 0 then s.sendsCorrection n cfg d
          else (s.sendsCorrection n cfg d).settleCorrections).enterLockout n cfg.hold
      else s.sendsCorrection n cfg d := rfl

/-! ### Operations of the Arbiter and the Monitor -/

/-- How booking and the passing of time leave a grant: a NORMAL grant's mark, suspension and running minimum run stay. -/
structure Grant.Kept (g h : Grant) : Prop extends g.Retuned h where
  standing : ∀ n m, g.cls = .normal n → h.cls = .normal m →
    m.suspended = n.suspended ∧ m.suspendPending = n.suspendPending ∧ (m.minRun = none ↔ n.minRun = none)

theorem Grant.Kept.refl (g : Grant) : g.Kept g := by
  refine { Grant.Retuned.refl g with standing := fun n m hn hm => ?_ }
  rw [hn] at hm
  cases hm
  exact ⟨rfl, rfl, Iff.rfl⟩

/-- A grant table whose grants are all kept. -/
def KeptGrants (gs hs : PerPort (Option Grant)) : Prop := ∀ p, Option.Rel Grant.Kept (gs.get p) (hs.get p)

theorem KeptGrants.retuned {gs hs : PerPort (Option Grant)} (h : KeptGrants gs hs) : Retuned gs hs := by
  intro p
  have hp := h p
  revert hp
  generalize gs.get p = a
  generalize hs.get p = b
  rintro (⟨⟨k⟩⟩ | _)
  · exact .some ‹_›
  · exact .none

theorem keptGrants_set {gs : PerPort (Option Grant)} {p : PortId} {f : Grant → Grant}
    (h : ∀ g, gs.get p = some g → g.Kept (f g)) : KeptGrants gs (gs.set p ((gs.get p).map f)) := by
  intro q
  rw [PerPort.get_set]
  split
  · next hq =>
    subst hq
    exact Option.rel_map _ h
  · exact Option.rel_refl Grant.Kept.refl _

/-- An operation of the Arbiter or the Monitor, whole. -/
inductive Operation : State → State → Prop
  | raise (s : State) (n : Notice) : Operation s (s.raise n)
  | chosen (s : State) : Operation s s.chosen
  | figures (s : State) (f m : Nat) :
      Operation s { s with arbiter := { s.arbiter with forecast := f, mustTakeHeat := m } }
  | keep (s : State) (gs : PerPort (Option Grant)) (h : KeptGrants s.arbiter.grants gs) :
      Operation s { s with arbiter := { s.arbiter with grants := gs } }
  | retire (s : State) (p : PortId) (r : Reason) (hr : r ≠ .completed) : Operation s (s.retire p r)
  | retireNormal (s : State) (p : PortId) (r : Reason) (h : ∀ g, s.grant p = some g → ∃ n, g.cls = .normal n) :
      Operation s (s.retireHoldingSolar p r)
  | testOverheat (s : State) : Operation s s.testOverheat
  | compareComfort (s : State) : Operation s s.compareComfort
  | hygieneLook (s : State) : Operation s s.hygieneLook
  | productive (s : State) (h : ∃ p g held, s.grant p = some g ∧ g.cls = .mustTake held) :
      Operation s s.productiveDeposit
  | expireMinRun (s : State) (p : PortId) : Operation s (s.expireMinRun p)
  | expireSolarIdle (s : State) : Operation s s.expireSolarIdle
  | expireHygieneLimit (s : State) : Operation s s.expireHygieneLimit
  | resetGrants (s : State) : Operation s s.resetGrants

theorem Operation.moves {s t : State} (h : Operation s t) : Moves s t := by
  cases h with
  | raise n => exact moves_raise s n
  | chosen => exact .single (.chosen s)
  | figures f m => exact moves_arbiter s _
  | keep gs h => exact .single (.retune s gs h.retuned)
  | retire p r hr => exact moves_retire s p hr
  | retireNormal p r h =>
    refine .single (.retire s p r fun _ g hg hh => ?_)
    obtain ⟨n, hn⟩ := h g hg
    rw [hn] at hh
    cases hh
  | testOverheat => exact moves_testOverheat s
  | compareComfort => exact moves_compareComfort s
  | hygieneLook => exact moves_hygieneLook s
  | productive h => exact moves_productiveDeposit s
  | expireMinRun p => exact moves_expireMinRun s p
  | expireSolarIdle => exact moves_expireSolarIdle s
  | expireHygieneLimit => exact moves_expireHygieneLimit s
  | resetGrants => exact moves_resetGrants s

theorem Move.touches {s t : State} (h : Move s t) : s.TouchesGrants t := by
  cases h with
  | raise n => exact s.touches_raise n
  | chosen => exact s.touches_chosen
  | arbiter a => exact s.touches_arbiter a
  | retune gs => exact s.touches_arbiter _
  | retire p r => exact s.touches_retireHoldingSolar p r
  | hold held => exact s.touches_arbiter _
  | due => exact s.touches_hygiene _
  | clean => exact s.touches_hygiene _
  | complete => exact (s.touches_hygiene _).trans (State.touches_retireAll _ _ _)

theorem Moves.touches {s t : State} (h : Moves s t) : s.TouchesGrants t := by
  induction h with
  | refl => exact .refl s
  | tail _ m ih => exact ih.trans m.touches

/-! ### Acts -/

/-- What a row of acts may reach beyond the Arbiter, the Monitor, the flags, the Scanner and the waiting corrections. -/
structure Reach where
  water : Bool
  probes : Bool
  link : Bool

/-- How a probe record may change, as far as the store rests on it: its height within V, its reading within 11 000. -/
structure Probe.Fits (store : Option Store) (p q : Probe) : Prop where
  height : ∀ c, q.config = some c → p.config = some c ∨ ∃ st, store = some st ∧ c.height ≤ st.cfg.volume
  reading : ∀ r, q.last = some r → p.last = some r ∨ r ≤ 11000

theorem Probe.Fits.of_same {store : Option Store} {p q : Probe} (hc : q.config = p.config) (hl : q.last = p.last) :
    Probe.Fits store p q :=
  ⟨fun _ h => .inl (hc ▸ h), fun _ h => .inl (hl ▸ h)⟩

/-- The class of a new grant, as the gates of R90 to R97 leave it. -/
structure Admitted (s : State) (p : PortId) (c : PortConfig) (st : Store) (cls : GrantClass) (supply : Nat) : Prop where
  store : s.store = some st
  config : (s.port p).config = some c
  free : s.grant p = none
  admits : c.source.Admits cls
  supply : supply ≤ 11000
  mustTake : ∀ held, cls = .mustTake held → held = s.arbiter.overheat
  normal : ∀ n, cls = .normal n → s.arbiter.overheat = false ∧ st.holiday = false ∧ 1 ≤ n.budget ∧ n.budget ≤ 65535
    ∧ n.suspended = false ∧ n.suspendPending = false

/-- One act of a command on the blocks. -/
inductive Act (r : Reach) : State → State → Prop
  | operation {s t : State} (h : Operation s t) : Act r s t
  | link (s : State) (l : Link) (hr : r.link = true) (hrate : l.rate = s.link.rate) : Act r s { s with link := l }
  | scanner (s : State) (sc : Scanner) : Act r s { s with scanner := sc }
  | corrections (s : State) (cs : List Correction) : Act r s { s with corrections := cs }
  | probes (s : State) (ps : PerProbe Probe) (hr : r.probes = true)
      (h : ∀ n, Probe.Fits s.store (s.probes.get n) (ps.get n)) : Act r s { s with probes := ps }
  /-- an operation of the Store Model on its list, its timers or its held temperatures -/
  | store (s : State) (st st' : Store) (hr : r.water = true) (hst : s.store = some st) (hcfg : st'.cfg = st.cfg)
      (hh : st'.holiday = st.holiday) (hs : s.StoreSound → st'.Sound) : Act r s { s with store := some st' }
  | running (s : State) (st : Store) (hr : r.water = true) (hst : s.store = some st) :
      Act r s { s with store := some { st with holiday := false } }
  | enterHoliday (s : State) (st : Store) (hr : r.water = true) (hst : s.store = some st) : Act r s (s.enterHoliday st)
  /-- a store started, the blocks in their starting states (R179) -/
  | start (s : State) (cfg : StoreConfig) (holiday : Bool) (sc : Scanner) (hw : r.water = true) (hp : r.probes = true)
      (hc : cfg.InRange) :
      Act r s { s with
        store := some (Store.start cfg holiday), arbiter := .initial, hygiene := .initial, scanner := sc
        probes := .replicate .initial }
  /-- a port record changed: its totals, or where it holds no grant its configuration too -/
  | port (s : State) (p : PortId) (q : Port) (hl : q.lastEnd = (s.port p).lastEnd)
      (hc : q.config = (s.port p).config ∨ s.grant p = none
        ∧ ∀ c, q.config = some c → ∃ st, s.store = some st ∧ c.entry.InStore st.cfg.volume) :
      Act r s { s with arbiter := { s.arbiter with ports := s.arbiter.ports.set p q } }
  | grant (s : State) (p : PortId) (c : PortConfig) (st : Store) (cls : GrantClass) (supply : Nat)
      (h : Admitted s p c st cls supply) (hh : cls ≠ .hygiene) : Act r s (s.grantCharge p c cls supply).state
  | hygieneGrant (s : State) (p : PortId) (c : PortConfig) (st : Store) (supply : Nat) (limit : Nat)
      (h : Admitted s p c st .hygiene supply) (ho : s.arbiter.overheat = false) (hd : s.hygiene.state = .due) :
      Act r s (State.grantCharge { s with hygiene := { state := .inProgress, limit := some limit } } p c .hygiene
        supply).state

/-- A row of acts. -/
abbrev Acts (r : Reach) : State → State → Prop := ReflTransGen (Act r)

theorem Acts.keep {r : Reach} {P : State → Prop} (hP : ∀ {s t}, Act r s t → P s → P t) {s t : State} (h : Acts r s t)
    (hs : P s) : P t := by
  induction h with
  | refl => exact hs
  | tail _ a ih => exact hP a ih

/-- A wider reach allows what a narrower one does. -/
theorem Act.widen {r r' : Reach} (hw : r.water = true → r'.water = true) (hp : r.probes = true → r'.probes = true)
    (hl : r.link = true → r'.link = true) {s t : State} (h : Act r s t) : Act r' s t := by
  cases h with
  | operation h => exact .operation h
  | link l hr hrate => exact .link s l (hl hr) hrate
  | scanner sc => exact .scanner s sc
  | corrections cs => exact .corrections s cs
  | probes ps hr h => exact .probes s ps (hp hr) h
  | store st st' hr hst hcfg hh hs => exact .store s st st' (hw hr) hst hcfg hh hs
  | running st hr hst => exact .running s st (hw hr) hst
  | enterHoliday st hr hst => exact .enterHoliday s st (hw hr) hst
  | start cfg holiday sc hr hr' hc => exact .start s cfg holiday sc (hw hr) (hp hr') hc
  | port p q hlast hc => exact .port s p q hlast hc
  | grant p c st cls supply h hh => exact .grant s p c st cls supply h hh
  | hygieneGrant p c st supply limit h ho hd => exact .hygieneGrant s p c st supply limit h ho hd

theorem Acts.widen {r r' : Reach} (hw : r.water = true → r'.water = true) (hp : r.probes = true → r'.probes = true)
    (hl : r.link = true → r'.link = true) {s t : State} (h : Acts r s t) : Acts r' s t :=
  Relation.ReflTransGen.mono (r := Act r) (p := Act r') (fun _ _ => Act.widen hw hp hl) _ _ h

/-! ### The shared operations as acts -/

section
variable {r : Reach}

theorem Operation.acts {s t : State} (h : Operation s t) : Acts r s t := .single (.operation h)

theorem acts_raiseIf (s : State) (c : Bool) (n : Notice) : Acts r s (s.raiseIf c n) := by
  cases c
  · exact .refl
  · exact (Operation.raise s n).acts

theorem acts_arbiterReport (s : State) : Acts r s s.arbiterReport :=
  (Operation.testOverheat s).acts.tail (.operation (.compareComfort _))

theorem acts_modelChanged (s : State) : Acts r s s.modelChanged := by
  have late (u : State) : Acts r u u.arbiterReport.hygieneLook :=
    (acts_arbiterReport u).tail (.operation (.hygieneLook _))
  unfold State.modelChanged
  split
  · have counted : Acts r s s.chosen := (Operation.chosen s).acts
    split
    · exact (counted.tail (.operation (.hygieneLook _))).trans (acts_arbiterReport _)
    · exact counted.trans (late _)
    · exact counted.trans (late _)
  · exact late s

theorem acts_depositReport (s : State) (ofRun : Bool) : Acts r s (s.depositReport ofRun).2 := by
  have late (u : State) : Acts r u u.arbiterReport.hygieneLook :=
    (acts_arbiterReport u).tail (.operation (.hygieneLook _))
  unfold State.depositReport
  split
  · have counted : Acts r s s.chosen := (Operation.chosen s).acts
    split
    · exact (counted.tail (.operation (.hygieneLook _))).trans (acts_arbiterReport _)
    · exact counted.trans (late _)
    · exact counted.trans (late _)
  · exact late s

/-- An operation of the Store Model on its list, with its report. -/
theorem acts_withStrata (hr : r.water = true) {s : State} {st : Store} {l : List Stratum} (hst : s.store = some st)
    (hs : s.StoreSound → Store.Sound { st with strata := l }) : Acts r s (s.withStrata st l) :=
  .single (.store s st { st with strata := l } hr hst rfl rfl hs)

theorem State.StoreSound.store {s : State} (h : s.StoreSound) {st : Store} (hst : s.store = some st) : st.Sound :=
  (h st hst).1

theorem acts_takeCorrection (hr : r.water = true) (s : State) : Acts r s s.takeCorrection := by
  unfold State.takeCorrection
  split
  · exact .refl
  · next c rest hc =>
    have taken : Acts r s { s with corrections := rest } := .single (.corrections s rest)
    dsimp only
    split
    · exact taken
    · next st hst =>
      refine (taken.trans (acts_withStrata hr hst fun hs => ?_)).trans (acts_modelChanged _)
      exact (hs.store hst).correct c

theorem acts_takeCorrections (hr : r.water = true) : ∀ (n : Nat) (s : State), Acts r s (State.takeCorrections n s)
  | 0, _ => .refl
  | n + 1, s => (acts_takeCorrection hr s).trans (acts_takeCorrections hr n _)

theorem acts_settleCorrections (hr : r.water = true) (s : State) : Acts r s s.settleCorrections :=
  acts_takeCorrections hr _ s

/-- One probe record changed, its height and reading kept. -/
theorem acts_changeProbe (hr : r.probes = true) (s : State) (n : ProbeId) {f : Probe → Probe}
    (h : Probe.Fits s.store (s.probes.get n) (f (s.probes.get n))) : Acts r s (s.changeProbe n f) := by
  refine .single (.probes s _ hr fun k => ?_)
  rw [PerProbe.get_set]
  split
  · next hk =>
    subst hk
    exact h
  · exact .of_same rfl rfl

theorem acts_setAlarm (hr : r.probes = true) (s : State) (n : ProbeId) (alarm : Bool) : Acts r s (s.setAlarm n alarm) := by
  unfold State.setAlarm
  split
  · exact .refl
  · exact ((acts_changeProbe hr s n (.of_same rfl rfl)).trans (acts_raiseIf _ _ _)).trans (Operation.testOverheat _).acts

/-! ### The Scanner and the Reconciler -/

theorem acts_startCycle (s : State) : Acts r s s.startCycle := by
  unfold State.startCycle
  split
  · exact .refl
  · exact .single (.scanner s _)

theorem acts_takeStart (s : State) : Acts r s s.takeStart := by
  unfold State.takeStart
  split
  · exact .single (.scanner s _)
  · exact acts_startCycle s

theorem acts_moveOn (s : State) (n : ProbeId) : Acts r s (s.moveOn n) := by
  unfold State.moveOn
  split
  · exact .single (.scanner s _)
  · split
    · exact (ReflTransGen.single (.scanner s _)).trans (acts_startCycle _)
    · exact .single (.scanner s _)

theorem acts_sendCorrection (s : State) (height : Nat) (c : Int) : Acts r s (s.sendCorrection height c) := by
  unfold State.sendCorrection
  split
  · exact .refl
  · exact .single (.corrections s _)

theorem acts_enterLockout (hr : r.probes = true) (s : State) (n : ProbeId) (hold : Nat) :
    Acts r s (s.enterLockout n hold) :=
  (acts_changeProbe hr s n (.of_same rfl rfl)).tail (.operation (.raise _ _))

theorem acts_correct (hw : r.water = true) (hp : r.probes = true) (s : State) (n : ProbeId) (cfg : ProbeConfig) (d : Int) :
    Acts r s (s.correct n cfg d) := by
  have sent : Acts r s (s.sendsCorrection n cfg d) :=
    (acts_changeProbe hp s n (.of_same rfl rfl)).trans (acts_sendCorrection _ _ _)
  rw [State.correct_eq]
  split
  · split
    · exact sent.trans (acts_enterLockout hp _ n cfg.hold)
    · exact (sent.trans (acts_settleCorrections hw _)).trans (acts_enterLockout hp _ n cfg.hold)
  · exact sent

theorem acts_compareReading (hw : r.water = true) (hp : r.probes = true) (s : State) (n : ProbeId) (cfg : ProbeConfig)
    (st : Store) (reading : Nat) : Acts r s (s.compareReading n cfg st reading) := by
  unfold State.compareReading
  dsimp only
  split
  · refine acts_changeProbe hp s n ?_
    unfold Probe.agreed
    split <;> exact .of_same rfl rfl
  · exact acts_correct hw hp s n cfg _
  · exact acts_correct hw hp s n cfg _

theorem acts_takeReading (hw : r.water = true) (hp : r.probes = true) (s : State) (n : ProbeId) {reading : Nat}
    (hreading : reading ≤ 11000) : Acts r s (s.takeReading n reading) := by
  unfold State.takeReading
  split
  · next st cfg hst hcfg =>
    have read := acts_changeProbe hp s n (f := fun p => p.takeReading reading)
      ⟨fun _ h => .inl h, fun k h => .inr (Option.some.inj h ▸ hreading)⟩
    have alarmed := read.trans (acts_setAlarm hp (s.changeProbe n fun p => p.takeReading reading) n
      (alarmAfter cfg.alarmMode cfg.threshold reading
        ((s.changeProbe n fun p => p.takeReading reading).probes.get n).alarm))
    dsimp only
    split
    · exact alarmed
    · exact alarmed.trans (acts_compareReading hw hp _ n cfg st reading)
  · exact .refl

theorem acts_takeTimeout (hp : r.probes = true) (s : State) (n : ProbeId) : Acts r s (s.takeTimeout n) := by
  unfold State.takeTimeout
  exact (acts_changeProbe hp s n (.of_same rfl rfl)).trans (acts_raiseIf _ _ _)

theorem acts_endConversion (s : State) (c : Conversion) (result : State → State) (h : Acts r s (result s)) :
    Acts r s (s.endConversion c result) := by
  unfold State.endConversion
  split
  · exact acts_moveOn s _
  · exact h.trans (acts_moveOn _ _)

end

end Sys2Proof.Machine
end

section
/-!
PROOF. A retirement as one record update, and the popping of the resume list: what each leaves of the Arbiter's figures, the
grants and the marks; and from them the whole effect of a retirement (R81, R101, R102, R116, R137) and the requests that
retire a grant (R104, R106, R108).
-/

namespace Sys2Proof.Machine

/-! ### The retirement of a grant -/

/-- The notices after the end of a grant, but for the failing of a run (R102). -/
def NoticeRegister.ended (n : NoticeRegister) (r : Reason) : NoticeRegister :=
  let n1 := if r = .released ∨ r = .completed then n else n.raise .grantEnded
  if r = .abandoned then n1.raise .resumeDropped else n1

/-- The end of a grant that does not fail a run (R81, R101, R102). -/
theorem State.retireHoldingSolar_of_grant {s : State} {p : PortId} {g : Grant} {r : Reason} (hg : s.grant p = some g)
    (hf : ¬(g.cls = .hygiene ∧ r ≠ .completed ∧ s.hygiene.state = .inProgress)) :
    s.retireHoldingSolar p r =
      { s with arbiter := s.arbiter.endGrant p g.handle r, notices := s.notices.ended r } := by
  have notices : ((({ s with arbiter := s.arbiter.endGrant p g.handle r } : State).raiseIf (!r.asPlanned) .grantEnded).raiseIf
      (decide (r = .abandoned)) .resumeDropped)
      = { s with arbiter := s.arbiter.endGrant p g.handle r, notices := s.notices.ended r } := by
    cases r <;> rfl
  simp only [State.retireHoldingSolar, hg, notices]
  split
  · next h =>
    obtain ⟨hh, hr⟩ := Bool.and_eq_true_iff.mp h
    refine if_neg fun hs => hf ⟨Grant.isHygiene_iff.mp hh, of_decide_eq_true hr, hs⟩
  · rfl

/-- The end of a HYGIENE grant that fails its run (R137). -/
theorem State.retireHoldingSolar_of_failed {s : State} {p : PortId} {g : Grant} {r : Reason} (hg : s.grant p = some g)
    (hh : g.cls = .hygiene) (hr : r ≠ .completed) (hs : s.hygiene.state = .inProgress) :
    s.retireHoldingSolar p r =
      { s with
        arbiter := s.arbiter.endGrant p g.handle r
        hygiene := { state := .due, limit := none }
        notices := (s.notices.ended r).raise .hygieneFailed } := by
  have notices : ((({ s with arbiter := s.arbiter.endGrant p g.handle r } : State).raiseIf (!r.asPlanned) .grantEnded).raiseIf
      (decide (r = .abandoned)) .resumeDropped)
      = { s with arbiter := s.arbiter.endGrant p g.handle r, notices := s.notices.ended r } := by
    cases r <;> rfl
  have failed : (g.isHygiene && decide (r ≠ .completed)) = true :=
    Bool.and_eq_true_iff.mpr ⟨Grant.isHygiene_iff.mpr hh, decide_eq_true hr⟩
  simp only [State.retireHoldingSolar, hg, notices, if_pos failed]
  exact if_pos hs

/-- What a retirement leaves of the grant table, whatever the Monitor makes of it (R101). -/
theorem State.retireHoldingSolar_arbiter {s : State} {p : PortId} {g : Grant} (hg : s.grant p = some g) (r : Reason) :
    (s.retireHoldingSolar p r).arbiter = s.arbiter.endGrant p g.handle r := by
  by_cases hf : g.cls = .hygiene ∧ r ≠ .completed ∧ s.hygiene.state = .inProgress
  · obtain ⟨hh, hr, hs⟩ := hf
    rw [State.retireHoldingSolar_of_failed hg hh hr hs]
  · rw [State.retireHoldingSolar_of_grant hg hf]

theorem State.retireHoldingSolar_hygiene {s : State} {p : PortId} {r : Reason}
    (h : ∀ g, s.grant p = some g → g.cls ≠ .hygiene) : (s.retireHoldingSolar p r).hygiene = s.hygiene := by
  cases hg : s.grant p with
  | none => rw [State.retireHoldingSolar_none hg]
  | some g => rw [State.retireHoldingSolar_of_grant hg fun hf => h g hg hf.1]

theorem State.port_retireHoldingSolar {s : State} {p : PortId} {g : Grant} (hg : s.grant p = some g) (r : Reason)
    (q : PortId) : (s.retireHoldingSolar p r).port q =
      if q = p then { s.port p with lastEnd := some { handle := g.handle, reason := r } } else s.port q := by
  rw [State.port, State.retireHoldingSolar_arbiter hg]
  exact PerPort.get_set _ _ _ _

/-- No retirement changes a port's configuration. -/
theorem State.config_retireHoldingSolar (s : State) (p : PortId) (r : Reason) (q : PortId) :
    ((s.retireHoldingSolar p r).port q).config = (s.port q).config := by
  cases hg : s.grant p with
  | none => rw [State.retireHoldingSolar_none hg]
  | some g =>
    rw [State.port_retireHoldingSolar hg]
    split
    · next hq => rw [hq]
    · rfl

theorem State.resume_retireHoldingSolar {s : State} {p : PortId} {g : Grant} (hg : s.grant p = some g) (r : Reason) :
    (s.retireHoldingSolar p r).arbiter.resume = s.arbiter.resume.filter (· ≠ p) := by
  rw [State.retireHoldingSolar_arbiter hg]
  rfl

/-! ### What ends and resumptions leave of the Arbiter's figures -/

/-- The figures of the Arbiter apart from its tables, the count of choices, the Store and the probes stay. -/
structure State.KeepsFigures (s t : State) : Prop where
  solarActive : t.arbiter.solarActive = s.arbiter.solarActive
  solarIdle : t.arbiter.solarIdle = s.arbiter.solarIdle
  comfortEmergency : t.arbiter.comfortEmergency = s.arbiter.comfortEmergency
  overheat : t.arbiter.overheat = s.arbiter.overheat
  forecast : t.arbiter.forecast = s.arbiter.forecast
  mustTakeHeat : t.arbiter.mustTakeHeat = s.arbiter.mustTakeHeat
  choices : t.choices = s.choices
  store : t.store = s.store
  probes : t.probes = s.probes

theorem State.KeepsFigures.refl (s : State) : s.KeepsFigures s := ⟨rfl, rfl, rfl, rfl, rfl, rfl, rfl, rfl, rfl⟩

theorem State.KeepsFigures.trans {s t u : State} (h : s.KeepsFigures t) (k : t.KeepsFigures u) : s.KeepsFigures u :=
  ⟨k.1.trans h.1, k.2.trans h.2, k.3.trans h.3, k.4.trans h.4, k.5.trans h.5, k.6.trans h.6, k.7.trans h.7, k.8.trans h.8,
    k.9.trans h.9⟩

theorem State.keepsFigures_foldl {α : Type} (f : State → α → State) (hf : ∀ (s : State) (a : α), s.KeepsFigures (f s a)) :
    ∀ (l : List α) (s : State), s.KeepsFigures (l.foldl f s)
  | [], s => .refl s
  | a :: l, s => (hf s a).trans (State.keepsFigures_foldl f hf l (f s a))

theorem State.keepsFigures_retireHoldingSolar (s : State) (p : PortId) (r : Reason) :
    s.KeepsFigures (s.retireHoldingSolar p r) := by
  cases hg : s.grant p with
  | none => rw [State.retireHoldingSolar_none hg]; exact .refl s
  | some g =>
    by_cases hf : g.cls = .hygiene ∧ r ≠ .completed ∧ s.hygiene.state = .inProgress
    · obtain ⟨hh, hr, hs⟩ := hf
      rw [State.retireHoldingSolar_of_failed hg hh hr hs]
      exact ⟨rfl, rfl, rfl, rfl, rfl, rfl, rfl, rfl, rfl⟩
    · rw [State.retireHoldingSolar_of_grant hg hf]
      exact ⟨rfl, rfl, rfl, rfl, rfl, rfl, rfl, rfl, rfl⟩

theorem State.keepsFigures_retireAll (s : State) (r : Reason) (ps : List PortId) : s.KeepsFigures (s.retireAll r ps) :=
  State.keepsFigures_foldl _ (fun s p => s.keepsFigures_retireHoldingSolar p r) ps s

theorem State.keepsFigures_changeGrant (s : State) (p : PortId) (f : Grant → Grant) : s.KeepsFigures (s.changeGrant p f) :=
  ⟨rfl, rfl, rfl, rfl, rfl, rfl, rfl, rfl, rfl⟩

theorem State.keepsFigures_removeMarks (s : State) : s.KeepsFigures s.removeMarks :=
  ⟨rfl, rfl, rfl, rfl, rfl, rfl, rfl, rfl, rfl⟩

theorem State.keepsFigures_resume (s : State) (l : List PortId) :
    s.KeepsFigures { s with arbiter := { s.arbiter with resume := l } } :=
  ⟨rfl, rfl, rfl, rfl, rfl, rfl, rfl, rfl, rfl⟩

theorem State.keepsFigures_pushResume (s : State) (p : PortId) : s.KeepsFigures (s.pushResume p) := by
  unfold State.pushResume
  dsimp only
  split
  · split
    · exact (s.keepsFigures_retireHoldingSolar _ _).trans (State.keepsFigures_resume _ _)
    · exact s.keepsFigures_resume _
  · exact s.keepsFigures_resume _

/-! ### One resumption -/

/-- A resumption comes to nothing, an end or a fresh allowance (R117). -/
theorem State.resumeGrant_cases (s : State) (p : PortId) :
    (s.resumeGrant p = s ∧ ∀ st g n, s.store = some st → s.grant p = some g → g.cls ≠ .normal n)
      ∨ ∃ st g n, s.store = some st ∧ s.grant p = some g ∧ g.cls = .normal n
        ∧ (s.resumeGrant p = s.retireHoldingSolar p .satisfied
          ∨ ∃ fresh, fresh ≠ 0 ∧ fresh ≤ n.budget - g.delivered
            ∧ s.resumeGrant p = s.changeGrant p (Grant.resumed fresh st.cfg.minRun)) := by
  unfold State.resumeGrant
  split
  · next st g hst hg =>
    split
    · next n hn =>
      refine .inr ⟨st, g, n, hst, hg, Grant.normal?_eq_some.mp hn, ?_⟩
      dsimp only
      split
      · exact .inl rfl
      · next ha => exact .inr ⟨_, ha, allowance_le .., rfl⟩
    · next hn =>
      refine .inl ⟨rfl, fun _ k n _ hk => ?_⟩
      rw [← Option.some.inj (hg.symm.trans hk)]
      exact Grant.normal?_eq_none.mp hn n
  · next hnone => exact .inl ⟨rfl, fun st g _ hst hg => absurd hg (hnone st g hst)⟩

theorem State.keepsFigures_resumeGrant (s : State) (p : PortId) : s.KeepsFigures (s.resumeGrant p) := by
  obtain ⟨h, -⟩ | ⟨_, _, _, _, _, _, h | ⟨_, _, _, h⟩⟩ := s.resumeGrant_cases p <;> rw [h]
  · exact .refl s
  · exact s.keepsFigures_retireHoldingSolar p _
  · exact s.keepsFigures_changeGrant p _

theorem State.hygiene_resumeGrant (s : State) (p : PortId) : (s.resumeGrant p).hygiene = s.hygiene := by
  obtain ⟨h, -⟩ | ⟨_, g, n, _, hg, hn, h | ⟨_, _, _, h⟩⟩ := s.resumeGrant_cases p <;> rw [h]
  · refine State.retireHoldingSolar_hygiene fun k hk => ?_
    rw [← Option.some.inj (hg.symm.trans hk), hn]
    exact nofun
  · rfl

theorem State.grant_changeGrant (s : State) (p q : PortId) (f : Grant → Grant) :
    (s.changeGrant p f).grant q = if q = p then (s.grant p).map f else s.grant q :=
  PerPort.get_set _ _ _ _

theorem State.grant_resumeGrant_other (s : State) {p q : PortId} (h : q ≠ p) : (s.resumeGrant p).grant q = s.grant q := by
  obtain ⟨e, -⟩ | ⟨_, _, _, _, _, _, e | ⟨_, _, _, e⟩⟩ := s.resumeGrant_cases p <;> rw [e]
  · rw [State.grant_retireHoldingSolar, if_neg h]
  · rw [State.grant_changeGrant, if_neg h]

theorem State.port_resumeGrant_other (s : State) {p q : PortId} (h : q ≠ p) : (s.resumeGrant p).port q = s.port q := by
  obtain ⟨e, -⟩ | ⟨_, _, _, _, hg, _, e | ⟨_, _, _, e⟩⟩ := s.resumeGrant_cases p <;> rw [e]
  · rw [State.port_retireHoldingSolar hg, if_neg h]
  · rfl

/-- The resume list after a resumption: the entry's own, if it stood there again, may leave (R101). -/
theorem State.resume_resumeGrant (s : State) {p : PortId} (h : p ∉ s.arbiter.resume) :
    (s.resumeGrant p).arbiter.resume = s.arbiter.resume := by
  obtain ⟨e, -⟩ | ⟨_, g, _, _, hg, _, e | ⟨_, _, _, e⟩⟩ := s.resumeGrant_cases p <;> rw [e]
  · rw [State.resume_retireHoldingSolar hg]
    exact List.filter_eq_self.mpr fun q hq => by simpa using fun hqp : q = p => h (hqp ▸ hq)
  · rfl

/-! ### Marks -/

/-- No grant is marked suspend-pending. -/
def State.NoMarks (s : State) : Prop :=
  ∀ p g n, s.grant p = some g → g.cls = .normal n → n.suspendPending = false

theorem State.noMarks_of_arbiter {s t : State} (h : s.NoMarks) (e : t.arbiter.grants = s.arbiter.grants) : t.NoMarks := by
  intro p g n hg hn
  refine h p g n ?_ hn
  rw [State.grant, Arbiter.grant, ← e]
  exact hg

theorem Grant.changeNormal_normal {g : Grant} {f : NormalGrant → NormalGrant} {m : NormalGrant}
    (h : (g.changeNormal f).cls = .normal m) : ∃ n, g.cls = .normal n ∧ m = f n := by
  by_cases hn : ∃ n, g.cls = .normal n
  · obtain ⟨n, hn⟩ := hn
    rw [Grant.changeNormal_of_normal hn] at h
    exact ⟨n, hn, (GrantClass.normal.inj h).symm⟩
  · rw [Grant.changeNormal_of_other fun n hg => hn ⟨n, hg⟩] at h
    exact absurd ⟨m, h⟩ hn

theorem State.grant_removeMarks (s : State) (p : PortId) :
    s.removeMarks.grant p = (s.grant p).map (Grant.changeNormal fun n => { n with suspendPending := false }) :=
  PerPort.get_map _ _ _

theorem State.noMarks_removeMarks (s : State) : s.removeMarks.NoMarks := by
  intro p g m hg hm
  rw [State.grant_removeMarks] at hg
  obtain ⟨k, -, rfl⟩ := Option.map_eq_some_iff.mp hg
  obtain ⟨n, -, rfl⟩ := Grant.changeNormal_normal hm
  rfl

theorem State.NoMarks.resumeGrant {s : State} (h : s.NoMarks) (p : PortId) : (s.resumeGrant p).NoMarks := by
  intro q g m hg hm
  by_cases hq : q = p
  · subst hq
    obtain ⟨e, -⟩ | ⟨_, _, _, _, _, _, e | ⟨_, _, _, e⟩⟩ := s.resumeGrant_cases q <;> rw [e] at hg
    · exact h q g m hg hm
    · rw [State.grant_retireHoldingSolar, if_pos rfl] at hg
      cases hg
    · rw [State.grant_changeGrant, if_pos rfl] at hg
      obtain ⟨k, -, rfl⟩ := Option.map_eq_some_iff.mp hg
      obtain ⟨n, -, rfl⟩ := Grant.changeNormal_normal hm
      rfl
  · rw [s.grant_resumeGrant_other hq] at hg
    exact h q g m hg hm

/-! ### The whole list popped -/

theorem State.popEntries_spec : ∀ (l : List PortId) (s : State),
    s.KeepsFigures (State.popEntries l s) ∧ (State.popEntries l s).hygiene = s.hygiene
      ∧ (s.NoMarks → (State.popEntries l s).NoMarks)
      ∧ (∀ q, q ∉ l → (State.popEntries l s).grant q = s.grant q ∧ (State.popEntries l s).port q = s.port q)
  | [], s => ⟨.refl s, rfl, id, fun _ _ => ⟨rfl, rfl⟩⟩
  | p :: rest, s => by
    obtain ⟨figures, hygiene, marks, others⟩ := State.popEntries_spec rest
      (State.resumeGrant { s with arbiter := { s.arbiter with resume := rest } } p)
    refine ⟨((s.keepsFigures_resume rest).trans (State.keepsFigures_resumeGrant _ p)).trans figures,
      hygiene.trans (State.hygiene_resumeGrant _ p), fun h => marks (State.NoMarks.resumeGrant
        (s := { s with arbiter := { s.arbiter with resume := rest } }) (State.noMarks_of_arbiter h rfl) p), fun q hq => ?_⟩
    have hqp : q ≠ p := fun h => hq (h ▸ List.mem_cons_self)
    obtain ⟨grant, port⟩ := others q fun h => hq (List.mem_cons_of_mem p h)
    exact ⟨grant.trans (State.grant_resumeGrant_other _ hqp), port.trans (State.port_resumeGrant_other _ hqp)⟩

theorem State.resume_resumeGrant_nil {s : State} (h : s.arbiter.resume = []) (p : PortId) :
    (s.resumeGrant p).arbiter.resume = [] := by
  rw [s.resume_resumeGrant (by rw [h]; exact List.not_mem_nil), h]

theorem State.resume_popEntries : ∀ (l : List PortId) (s : State), (l = [] → s.arbiter.resume = []) →
    (State.popEntries l s).arbiter.resume = []
  | [], s, h => h rfl
  | p :: rest, s, _ => by
    refine State.resume_popEntries rest _ fun hr => ?_
    subst hr
    exact State.resume_resumeGrant_nil rfl p

theorem State.resume_popResume (s : State) : s.popResume.arbiter.resume = [] :=
  State.resume_popEntries _ s id

theorem State.keepsFigures_popResume (s : State) : s.KeepsFigures s.popResume := (State.popEntries_spec _ s).1

theorem State.hygiene_popResume (s : State) : s.popResume.hygiene = s.hygiene := (State.popEntries_spec _ s).2.1

theorem State.NoMarks.popResume {s : State} (h : s.NoMarks) : s.popResume.NoMarks :=
  (State.popEntries_spec _ s).2.2.1 h

theorem State.grant_popResume_other {s : State} {q : PortId} (h : q ∉ s.arbiter.resume) :
    s.popResume.grant q = s.grant q := ((State.popEntries_spec _ s).2.2.2 q h).1

theorem State.port_popResume_other {s : State} {q : PortId} (h : q ∉ s.arbiter.resume) :
    s.popResume.port q = s.port q := ((State.popEntries_spec _ s).2.2.2 q h).2

/-! ### Solar-active cleared -/

/-- The state in which the marks are removed and the list is popped when solar-active is cleared (R113, R116). -/
def State.solarCleared (s : State) : State :=
  { s with
    arbiter := { s.arbiter with solarActive := false, solarIdle := none }
    notices := s.notices.raise .solarChanged }

theorem State.clearSolar_spec {s : State} (h : s.arbiter.solarActive = true) :
    s.clearSolar = s.solarCleared.removeMarks.popResume
      ∧ s.clearSolar.arbiter.solarActive = false ∧ s.clearSolar.arbiter.solarIdle = none
      ∧ s.clearSolar.arbiter.resume = [] ∧ s.clearSolar.NoMarks ∧ s.clearSolar.hygiene = s.hygiene
      ∧ s.solarCleared.removeMarks.TouchesGrants s.clearSolar := by
  have eq : s.clearSolar = s.solarCleared.removeMarks.popResume := State.clearSolar_of_active h
  rw [eq]
  have figures := s.solarCleared.removeMarks.keepsFigures_popResume
  exact ⟨rfl, figures.solarActive, figures.solarIdle, State.resume_popResume _, (State.noMarks_removeMarks _).popResume,
    State.hygiene_popResume _, State.touches_popResume _⟩

theorem NoticeRegister.raise_flags (r : NoticeRegister) (n : Notice) : (r.raise n).flags = r.flags ||| n.word := rfl

theorem Notice.word_getLsbD (n : Notice) : n.word.getLsbD n.bit = true := by cases n <;> decide

theorem NoticeRegister.raise_bit (r : NoticeRegister) (n : Notice) : (r.raise n).flags.getLsbD n.bit = true := by
  rw [NoticeRegister.raise_flags, BitVec.getLsbD_or, n.word_getLsbD, Bool.or_true]

/-- A flag set before operations on grants stays set. -/
theorem State.TouchesGrants.flag {s t : State} (h : s.TouchesGrants t) {i : Nat} (hi : s.notices.flags.getLsbD i = true) :
    t.notices.flags.getLsbD i = true := h.2.2 i hi

/-! ### The retirement that ends solar-active -/

theorem Arbiter.anyMustTake_iff (a : Arbiter) :
    a.anyMustTake = true ↔ ∃ p g held, a.grants.get p = some g ∧ g.cls = .mustTake held := by
  simp only [Arbiter.anyMustTake, List.any_eq_true, PortId.mem_all, true_and]
  refine exists_congr fun p => ?_
  cases a.grants.get p with
  | none => simp
  | some g => simp [Grant.isMustTake_iff]

theorem State.retire_of_grant {s : State} {p : PortId} {g : Grant} (hg : s.grant p = some g) (r : Reason) :
    s.retire p r = if g.isMustTake && !(s.retireHoldingSolar p r).arbiter.anyMustTake then
      (s.retireHoldingSolar p r).clearSolar else s.retireHoldingSolar p r := by
  simp only [State.retire, hg]

theorem State.retire_none {s : State} {p : PortId} (h : s.grant p = none) (r : Reason) : s.retire p r = s := by
  simp only [State.retire, h]

/-- A MUST_TAKE grant stands after the retirement of a port's grant exactly where one stood at another port. -/
theorem State.anyMustTake_retireHoldingSolar (s : State) (p : PortId) (r : Reason) :
    (s.retireHoldingSolar p r).arbiter.anyMustTake = true
      ↔ ∃ q h held, q ≠ p ∧ s.grant q = some h ∧ h.cls = .mustTake held := by
  rw [Arbiter.anyMustTake_iff]
  refine exists_congr fun q => ?_
  have grant := s.grant_retireHoldingSolar p q r
  rw [State.grant, Arbiter.grant] at grant
  rw [grant]
  by_cases hq : q = p <;> simp [hq]

/-- The retirement of a grant whose end leaves solar-active alone is its end and no more (R101, R116). -/
theorem State.retire_eq_holding {s : State} {p : PortId} {g : Grant} (hg : s.grant p = some g) (r : Reason)
    (h : (∀ held, g.cls ≠ .mustTake held) ∨ s.arbiter.solarActive = false
      ∨ ∃ q h held, q ≠ p ∧ s.grant q = some h ∧ h.cls = .mustTake held) :
    s.retire p r = s.retireHoldingSolar p r := by
  rw [State.retire_of_grant hg]
  split
  · next hc =>
    obtain ⟨hm, ha⟩ := Bool.and_eq_true_iff.mp hc
    rcases h with hcls | hsolar | hother
    · obtain ⟨held, hm⟩ := Grant.isMustTake_iff.mp hm
      exact absurd hm (hcls held)
    · exact State.clearSolar_of_clear ((s.keepsFigures_retireHoldingSolar p r).solarActive.trans hsolar)
    · rw [(s.anyMustTake_retireHoldingSolar p r).mpr hother] at ha
      cases ha
  · rfl

/-- Settles O31: the end of the grant as one record update, and after it the clearing of solar-active where this was the
last MUST_TAKE grant. -/
theorem retirementDoesExactlyThis : Obligations.RetirementDoesExactlyThis := by
  intro s p g r hg failed n1 n2 ended
  have holding : s.retireHoldingSolar p r = ended := by
    by_cases hf : failed
    · obtain ⟨hh, hr, hs⟩ := id hf
      rw [State.retireHoldingSolar_of_failed hg hh hr hs]
      simp only [ended, if_pos hf]
      rfl
    · rw [State.retireHoldingSolar_of_grant hg hf]
      simp only [ended, if_neg hf]
      rfl
  refine ⟨holding, fun h => ?_, fun h => ?_, fun h => ?_, fun held hcls hsolar hlast => ?_⟩
  · exact (State.retire_eq_holding hg r (.inl h)).trans holding
  · exact (State.retire_eq_holding hg r (.inr (.inl h))).trans holding
  · exact (State.retire_eq_holding hg r (.inr (.inr h))).trans holding
  · have last : (g.isMustTake && !(s.retireHoldingSolar p r).arbiter.anyMustTake) = true := by
      rw [Bool.and_eq_true, Grant.isMustTake_iff, Bool.not_eq_true', ← Bool.not_eq_true,
        s.anyMustTake_retireHoldingSolar p r]
      exact ⟨⟨held, hcls⟩, fun ⟨q, h, held', hq, hh, hm⟩ => hlast q h held' hq hh hm⟩
    have retired : s.retire p r = ended.clearSolar := by
      rw [State.retire_of_grant hg, if_pos last, holding]
    have active : ended.arbiter.solarActive = true := hsolar
    obtain ⟨eq, solar, idle, resume, marks, -, touched⟩ := State.clearSolar_spec active
    -- the port's own entry is off the list, so what is popped leaves its end as it is
    have gone : p ∉ ended.solarCleared.removeMarks.arbiter.resume := by
      simp [ended, State.solarCleared, State.removeMarks]
    have noGrant : ended.solarCleared.removeMarks.grant p = none := by
      rw [State.grant_removeMarks, Option.map_eq_none_iff]
      exact PerPort.get_set_same _ _ _
    have lastEnd : (ended.solarCleared.removeMarks.port p).lastEnd = some { handle := g.handle, reason := r } :=
      congrArg Port.lastEnd (PerPort.get_set_same _ _ _)
    intro u
    have hu : u = ended.clearSolar := retired
    have popped : u = ended.solarCleared.removeMarks.popResume := hu.trans eq
    refine ⟨popped, s.touches_retire p r, ?_, ?_, ?_⟩
    · rw [popped, State.grant_popResume_other gone, noGrant]
    · rw [popped, State.port_popResume_other gone, lastEnd]
    · rw [hu]
      exact ⟨solar, idle, resume, touched.flag (NoticeRegister.raise_bit _ _), marks⟩

/-! ### The requests and the expiry that retire a grant -/

theorem PortId.ofNumber_eq_none {n : Nat} (h : n = 0 ∨ 6 < n) : PortId.ofNumber n = none := by
  rw [Option.eq_none_iff_forall_ne_some]
  intro p hp
  have number := PortId.number_of_ofNumber hp
  cases p <;> simp only [PortId.number] at number <;> omega

theorem exec_release (ch : Channel) (p0 p1 : Byte) (s : State) :
    exec (.release ch p0 p1) s = .next (s.shortRequest 7 ch p0 p1 (State.releaseRequest ch p0)) := rfl

theorem exec_revoke (ch : Channel) (p0 p1 : Byte) (s : State) :
    exec (.revoke ch p0 p1) s = .next (s.shortRequest 8 ch p0 p1 (State.revokeRequest p0)) := rfl

/-- A RELEASE that is taken sends its reply as a short answer (R169, R170). -/
theorem exec_release_of_reply {s t u : State} {p : PortId} {p0 p1 : Byte} {status : Status} {value : Nat}
    (h : s.Taking ⟨7, BitVec.ofNat 3 p.number, .short p0 p1⟩ t)
    (hr : t.releaseRequest (BitVec.ofNat 3 p.number) p0 = u.answer status value) :
    exec (.release (BitVec.ofNat 3 p.number) p0 p1) s = .next (u.sent (shortAnswer 7 (BitVec.ofNat 3 p.number)
      (BitVec.ofNat 8 status.code) (BitVec.ofNat 8 value))) := by
  rw [exec_release, State.shortRequest_port 7 (by decide) h, hr]
  rfl

/-- A REVOKE that is taken sends its reply as a short answer (R169, R170). -/
theorem exec_revoke_of_reply {s t u : State} {p0 p1 : Byte} {status : Status} {value : Nat}
    (h : s.Taking ⟨8, 0, .short p0 p1⟩ t) (hr : t.revokeRequest p0 = u.answer status value) :
    exec (.revoke 0 p0 p1) s
      = .next (u.sent (shortAnswer 8 0 (BitVec.ofNat 8 status.code) (BitVec.ofNat 8 value))) := by
  rw [exec_revoke, State.shortRequest_supervisor 8 (by decide) h, hr]
  rfl

section
variable {t : State} {p : PortId} {c : PortConfig} {p0 : Byte}

theorem State.releaseRequest_current {g : Grant} (hst : t.store ≠ none) (hc : (t.port p).config = some c)
    (hm : t.matchHandle p p0 = .current g) :
    t.releaseRequest (BitVec.ofNat 3 p.number) p0 = (t.retire p .released).answer .ok := by
  simp only [State.releaseRequest, State.onConfiguredPort_configured _ hst hc, hm]

theorem State.releaseRequest_lastEnd {r : Reason} (hst : t.store ≠ none) (hc : (t.port p).config = some c)
    (hm : t.matchHandle p p0 = .lastEnd r) :
    t.releaseRequest (BitVec.ofNat 3 p.number) p0 = t.answer .ended r.code := by
  simp only [State.releaseRequest, State.onConfiguredPort_configured _ hst hc, hm]

theorem State.releaseRequest_neither (hst : t.store ≠ none) (hc : (t.port p).config = some c)
    (hm : t.matchHandle p p0 = .neither) : t.releaseRequest (BitVec.ofNat 3 p.number) p0 = t.answer .stale := by
  simp only [State.releaseRequest, State.onConfiguredPort_configured _ hst hc, hm]

theorem State.revokeRequest_noPort (hst : t.store ≠ none) (h : PortId.ofNumber p0.toNat = none) :
    t.revokeRequest p0 = t.answer .errRange := by
  obtain ⟨st, hst⟩ := Option.ne_none_iff_exists'.mp hst
  simp only [State.revokeRequest, State.onStore, hst, h]

theorem State.revokeRequest_noGrant (hst : t.store ≠ none) (h : PortId.ofNumber p0.toNat = some p)
    (hg : t.grant p = none) : t.revokeRequest p0 = t.answer .noGrant := by
  obtain ⟨st, hst⟩ := Option.ne_none_iff_exists'.mp hst
  simp only [State.revokeRequest, State.onStore, hst, h, hg]

theorem State.revokeRequest_grant {g : Grant} (hst : t.store ≠ none) (h : PortId.ofNumber p0.toNat = some p)
    (hg : t.grant p = some g) : t.revokeRequest p0 = (t.retire p .revoked).answer .ok g.handle.toNat := by
  obtain ⟨st, hst⟩ := Option.ne_none_iff_exists'.mp hst
  simp only [State.revokeRequest, State.onStore, hst, h, hg]

end

theorem State.whenRunning_of_running {s : State} (h : s.pins.resetLow = false) (f : State → State) :
    s.whenRunning f = f s := by
  simp only [State.whenRunning, h, Bool.false_eq_true, if_false]

theorem State.whenRunning_of_held {s : State} (h : s.pins.resetLow = true) (f : State → State) : s.whenRunning f = s := by
  simp only [State.whenRunning, h, if_true]

/-- Settles O30: each request past its block's checks is the retirement of the grant it finds, and nothing where it finds
none. -/
theorem releaseRevokeAndExpiryRetire : Obligations.ReleaseRevokeAndExpiryRetire := by
  refine ⟨fun s t p p0 p1 c h hst hc => ?release, fun s t p p0 p1 h hst hc => ?noPort,
    fun s t p0 p1 h hst => ?revoke, fun s p hrun => ?expiry⟩
  case release =>
    refine ⟨fun g hg hh => ?_, fun e hg he hh => ?_, fun hg he => ?_⟩
    · exact exec_release_of_reply h (State.releaseRequest_current hst hc (State.matchHandle_current hg hh))
    · exact exec_release_of_reply h (State.releaseRequest_lastEnd hst hc (State.matchHandle_lastEnd hg he hh))
    · exact exec_release_of_reply h (State.releaseRequest_neither hst hc (State.matchHandle_neither hg he))
  case noPort => exact exec_release_of_reply h (State.onConfiguredPort_ofKindNone _ hst hc)
  case revoke =>
    refine ⟨fun hp => ?_, fun p hp hg => ?_, fun p g hp hg => ?_⟩
    · have none_ : PortId.ofNumber p0.toNat = none :=
        PortId.ofNumber_eq_none (hp.imp_left fun h0 => by rw [h0]; rfl)
      exact exec_revoke_of_reply h (State.revokeRequest_noPort hst none_)
    · have named : PortId.ofNumber p0.toNat = some p := by rw [hp, PortId.ofNumber_number]
      exact exec_revoke_of_reply h (State.revokeRequest_noGrant hst named hg)
    · have named : PortId.ofNumber p0.toNat = some p := by rw [hp, PortId.ofNumber_number]
      rw [exec_revoke_of_reply h (State.revokeRequest_grant hst named hg), BitVec.ofNat_toNat, BitVec.setWidth_eq]
      rfl
  case expiry =>
    have expired : exec (.livenessExpiry p) s = .next (s.retire p .expired) :=
      congrArg Host.Outcome.next (State.whenRunning_of_running hrun _)
    refine ⟨fun g _ => expired, fun hg => ?_⟩
    rw [expired, State.retire_none hg]

end Sys2Proof.Machine
end

section
/-!
PROOF. Outranking: the choice of the next grant to end, the ports taken one after another, and from them R95 and R96: who is
outranked, in what order, and no more than needed.
-/

namespace Sys2Proof.Machine

/-! ### The rank of a port's NORMAL grant -/

theorem Arbiter.normalRank_eq_some {a : Arbiter} {q : PortId} {r : Nat} : a.normalRank q = some r ↔
    ∃ g n c, a.grants.get q = some g ∧ g.cls = .normal n ∧ (a.ports.get q).config = some c ∧ c.source.rank = some r := by
  unfold Arbiter.normalRank
  constructor
  · intro h
    split at h
    · next n c hn hc =>
      obtain ⟨g, hg, hgn⟩ := Option.bind_eq_some_iff.mp hn
      exact ⟨g, n, c, hg, Grant.normal?_eq_some.mp hgn, hc, h⟩
    · cases h
  · rintro ⟨g, n, c, hg, hn, hc, hr⟩
    have hb : (a.grants.get q).bind Grant.normal? = some n :=
      Option.bind_eq_some_iff.mpr ⟨g, hg, Grant.normal?_eq_some.mpr hn⟩
    simp only [hb, hc, hr]

/-- A port of a rank that is outranked before another of a rank: the greater rank number first, the lowest port on a tie
(R96). -/
def Ahead (q : PortId) (r : Nat) (q' : PortId) (r' : Nat) : Prop := r' < r ∨ r' = r ∧ q.number < q'.number

/-! ### The next grant to end -/

/-- The better of the best port so far and another, for a rank that requests (R96). -/
def Arbiter.better (a : Arbiter) (rank : Nat) (best : Option (PortId × Nat)) (p : PortId) : Option (PortId × Nat) :=
  match a.normalRank p with
  | none => best
  | some r =>
    if r ≤ rank then best
    else match best with
      | none => some (p, r)
      | some (_, b) => if b < r then some (p, r) else best

theorem Arbiter.nextOutranked_eq (a : Arbiter) (rank : Nat) :
    a.nextOutranked rank = (PortId.all.foldl (a.better rank) none).map (·.1) := rfl

/-- The best of the ports looked at so far. -/
def Arbiter.BestOf (a : Arbiter) (rank : Nat) (seen : List PortId) : Option (PortId × Nat) → Prop
  | none => ∀ q ∈ seen, ∀ r, a.normalRank q = some r → r ≤ rank
  | some (p, b) => a.normalRank p = some b ∧ rank < b
      ∧ ∀ q ∈ seen, ∀ r, a.normalRank q = some r → rank < r → q = p ∨ Ahead p b q r

theorem Arbiter.BestOf.better {a : Arbiter} {rank : Nat} {seen : List PortId} {best : Option (PortId × Nat)}
    (h : a.BestOf rank seen best) {p : PortId} (hp : ∀ b, best = some b → b.1.number < p.number) :
    a.BestOf rank (seen ++ [p]) (a.better rank best p) := by
  unfold Arbiter.better
  cases hr : a.normalRank p with
  | none =>
    cases best with
    | none =>
      intro q hq r hqr
      rcases List.mem_append.mp hq with hq | hq
      · exact h q hq r hqr
      · rw [List.mem_singleton.mp hq, hr] at hqr
        cases hqr
    | some b =>
      obtain ⟨h1, h2, h3⟩ := h
      refine ⟨h1, h2, fun q hq r hqr hlt => ?_⟩
      rcases List.mem_append.mp hq with hq | hq
      · exact h3 q hq r hqr hlt
      · rw [List.mem_singleton.mp hq, hr] at hqr
        cases hqr
  | some r =>
    dsimp only
    split
    · next hle =>
      -- too high a rank to be outranked: the best so far stands
      cases best with
      | none =>
        intro q hq r' hqr
        rcases List.mem_append.mp hq with hq | hq
        · exact h q hq r' hqr
        · rw [List.mem_singleton.mp hq, hr] at hqr
          exact Option.some.inj hqr ▸ hle
      | some b =>
        obtain ⟨h1, h2, h3⟩ := h
        refine ⟨h1, h2, fun q hq r' hqr hlt => ?_⟩
        rcases List.mem_append.mp hq with hq | hq
        · exact h3 q hq r' hqr hlt
        · rw [List.mem_singleton.mp hq, hr] at hqr
          exact absurd (Option.some.inj hqr ▸ hle) (Nat.not_le.mpr hlt)
    · next hle =>
      cases best with
      | none =>
        refine ⟨hr, Nat.not_le.mp hle, fun q hq r' hqr hlt => ?_⟩
        rcases List.mem_append.mp hq with hq | hq
        · exact absurd (h q hq r' hqr) (Nat.not_le.mpr hlt)
        · exact .inl (List.mem_singleton.mp hq)
      | some b =>
        obtain ⟨h1, h2, h3⟩ := h
        dsimp only
        split
        · next hb =>
          refine ⟨hr, Nat.not_le.mp hle, fun q hq r' hqr hlt => ?_⟩
          rcases List.mem_append.mp hq with hq | hq
          · -- the old best falls behind, and so does all that stood behind it
            have behind : r' ≤ b.2 := by
              rcases h3 q hq r' hqr hlt with rfl | hlow | ⟨heq, -⟩
              · rw [h1] at hqr
                exact (Option.some.inj hqr).ge
              · exact hlow.le
              · exact heq.le
            exact .inr (.inl (behind.trans_lt hb))
          · exact .inl (List.mem_singleton.mp hq)
        · next hb =>
          refine ⟨h1, h2, fun q hq r' hqr hlt => ?_⟩
          rcases List.mem_append.mp hq with hq | hq
          · exact h3 q hq r' hqr hlt
          · rw [List.mem_singleton.mp hq] at hqr ⊢
            rw [hr] at hqr
            rcases (Option.some.inj hqr ▸ Nat.not_lt.mp hb : r' ≤ b.2).lt_or_eq with hlow | heq
            · exact .inr (.inl hlow)
            · exact .inr (.inr ⟨heq, hp b rfl⟩)

theorem Arbiter.better_mem {a : Arbiter} {rank : Nat} {best : Option (PortId × Nat)} {p : PortId} {b : PortId × Nat}
    (h : a.better rank best p = some b) : best = some b ∨ b.1 = p := by
  unfold Arbiter.better at h
  split at h
  · exact .inl h
  · split at h
    · exact .inl h
    · split at h
      · exact .inr (Option.some.inj h ▸ rfl)
      · split at h
        · exact .inr (Option.some.inj h ▸ rfl)
        · exact .inl h

theorem Arbiter.bestOf_foldl {a : Arbiter} {rank : Nat} : ∀ (l seen : List PortId) (best : Option (PortId × Nat)),
    a.BestOf rank seen best → (∀ b, best = some b → ∀ p ∈ l, b.1.number < p.number) →
      l.Pairwise (fun p q => p.number < q.number) → a.BestOf rank (seen ++ l) (l.foldl (a.better rank) best)
  | [], seen, best, h, _, _ => by simpa using h
  | p :: l, seen, best, h, hb, hl => by
    obtain ⟨hp, hl⟩ := List.pairwise_cons.mp hl
    have next := Arbiter.bestOf_foldl l (seen ++ [p]) (a.better rank best p)
      (h.better fun b hbest => hb b hbest p List.mem_cons_self)
      (fun b hbest q hq => (Arbiter.better_mem hbest).elim
        (fun old => hb b old q (List.mem_cons_of_mem p hq)) fun new => new ▸ hp q hq) hl
    simpa using next

theorem Arbiter.bestOf_nextOutranked (a : Arbiter) (rank : Nat) :
    a.BestOf rank PortId.all (PortId.all.foldl (a.better rank) none) :=
  Arbiter.bestOf_foldl PortId.all [] none (fun _ h => absurd h List.not_mem_nil) nofun (by decide)

/-- The next grant to end is a NORMAL one of a greater rank number, ahead of every other (R96). -/
theorem Arbiter.nextOutranked_some {a : Arbiter} {rank : Nat} {q : PortId} (h : a.nextOutranked rank = some q) :
    ∃ r, a.normalRank q = some r ∧ rank < r
      ∧ ∀ q' r', a.normalRank q' = some r' → rank < r' → q' = q ∨ Ahead q r q' r' := by
  have best := a.bestOf_nextOutranked rank
  rw [Arbiter.nextOutranked_eq] at h
  obtain ⟨⟨k, r⟩, hk, rfl⟩ := Option.map_eq_some_iff.mp h
  rw [hk] at best
  obtain ⟨h1, h2, h3⟩ := best
  exact ⟨r, h1, h2, fun q' r' => h3 q' (PortId.mem_all q') r'⟩

theorem Arbiter.nextOutranked_none {a : Arbiter} {rank : Nat} (h : a.nextOutranked rank = none) {q : PortId} {r : Nat}
    (hr : a.normalRank q = some r) : r ≤ rank := by
  have best := a.bestOf_nextOutranked rank
  rw [Arbiter.nextOutranked_eq, Option.map_eq_none_iff] at h
  rw [h] at best
  exact best q (PortId.mem_all q) r hr

/-! ### One grant outranked -/

theorem State.normal_of_normalRank {s : State} {q : PortId} {r : Nat} (h : s.arbiter.normalRank q = some r) :
    ∃ g n, s.grant q = some g ∧ g.cls = .normal n := by
  obtain ⟨g, n, -, hg, hn, -⟩ := Arbiter.normalRank_eq_some.mp h
  exact ⟨g, n, hg, hn⟩

/-- The ranks after a retirement: the port's own is gone and the others stay. -/
theorem State.normalRank_retireHoldingSolar (s : State) (p q : PortId) (r : Reason) :
    (s.retireHoldingSolar p r).arbiter.normalRank q = if q = p then none else s.arbiter.normalRank q := by
  have grant : (s.retireHoldingSolar p r).arbiter.grants.get q = if q = p then none else s.arbiter.grants.get q :=
    s.grant_retireHoldingSolar p q r
  have config : ((s.retireHoldingSolar p r).arbiter.ports.get q).config = (s.arbiter.ports.get q).config :=
    s.config_retireHoldingSolar p r q
  unfold Arbiter.normalRank
  rw [grant, config]
  by_cases h : q = p
  · simp [h]
  · simp [h]

/-! ### The ports taken, one after another -/

/-- The ports outranked by a request, in the order they are taken: each while the free need was still below the wanted Wh,
and each the next to end (R96). -/
inductive Taken (st : Store) (p : PortId) (rank wanted : Nat) : List PortId → State → Prop
  | nil (s : State) : Taken st p rank wanted [] s
  | cons {s : State} {q : PortId} {ts : List PortId} (short : freeNeed st s.arbiter p < wanted)
      (next : s.arbiter.nextOutranked rank = some q) (rest : Taken st p rank wanted ts (s.retireHoldingSolar q .outranked)) :
      Taken st p rank wanted (q :: ts) s

section
variable {st : Store} {p : PortId} {rank wanted : Nat}

theorem State.outrankUpTo_taken : ∀ (n : Nat) (s : State), ∃ ts, Taken st p rank wanted ts s
    ∧ State.outrankUpTo st p rank wanted n s = s.retireAll .outranked ts
  | 0, s => ⟨[], .nil s, rfl⟩
  | n + 1, s => by
    unfold State.outrankUpTo
    split
    · exact ⟨[], .nil s, rfl⟩
    · next hshort =>
      split
      · exact ⟨[], .nil s, rfl⟩
      · next q hq =>
        obtain ⟨ts, ht, he⟩ := State.outrankUpTo_taken n (s.retireHoldingSolar q .outranked)
        exact ⟨q :: ts, .cons (Nat.not_le.mp hshort) hq ht, he⟩

/-- Outranking stops with the need covered or nobody left to end, whatever grants there were in as many ports as it may
take. -/
theorem State.outrankUpTo_ends : ∀ (n : Nat) (s : State) (left : List PortId), left.length ≤ n →
    (∀ q, s.grant q ≠ none → q ∈ left) →
      wanted ≤ freeNeed st (State.outrankUpTo st p rank wanted n s).arbiter p
        ∨ (State.outrankUpTo st p rank wanted n s).arbiter.nextOutranked rank = none
  | 0, s, left, hlen, hleft => by
    refine .inr ?_
    rw [Option.eq_none_iff_forall_ne_some]
    intro q hq
    obtain ⟨r, hr, -⟩ := Arbiter.nextOutranked_some (a := s.arbiter) hq
    obtain ⟨g, n, hg, -⟩ := State.normal_of_normalRank (s := s) hr
    have none_left := hleft q (by rw [hg]; exact Option.some_ne_none g)
    rw [List.length_eq_zero_iff.mp (Nat.le_zero.mp hlen)] at none_left
    exact absurd none_left List.not_mem_nil
  | n + 1, s, left, hlen, hleft => by
    unfold State.outrankUpTo
    split
    · next h => exact .inl h
    · split
      · next h => exact .inr h
      · next q hq =>
        obtain ⟨r, hr, -⟩ := Arbiter.nextOutranked_some hq
        obtain ⟨g, m, hg, -⟩ := State.normal_of_normalRank hr
        have here := hleft q (by rw [hg]; exact Option.some_ne_none g)
        refine State.outrankUpTo_ends n _ (left.erase q) ?_ fun k hk => ?_
        · rw [List.length_erase_of_mem here]
          omega
        · rw [State.grant_retireHoldingSolar] at hk
          by_cases hkq : k = q
          · simp [hkq] at hk
          · rw [if_neg hkq] at hk
            exact (List.mem_erase_of_ne hkq).mpr (hleft k hk)

/-- Every port taken held a NORMAL grant of a greater rank number. -/
theorem Taken.ranked {ts : List PortId} {s : State} (h : Taken st p rank wanted ts s) :
    ∀ q ∈ ts, ∃ r, s.arbiter.normalRank q = some r ∧ rank < r := by
  induction h with
  | nil => exact fun q hq => absurd hq List.not_mem_nil
  | @cons s q ts short next rest ih =>
    intro k hk
    rcases List.mem_cons.mp hk with rfl | hk
    · obtain ⟨r, hr, hlt, -⟩ := Arbiter.nextOutranked_some next
      exact ⟨r, hr, hlt⟩
    · obtain ⟨r, hr, hlt⟩ := ih k hk
      rw [State.normalRank_retireHoldingSolar] at hr
      split at hr
      · cases hr
      · exact ⟨r, hr, hlt⟩

/-- A port that is taken is not among those taken after it. -/
theorem Taken.not_mem {q : PortId} {ts : List PortId} {s : State}
    (h : Taken st p rank wanted ts (s.retireHoldingSolar q .outranked)) : q ∉ ts := by
  intro hq
  obtain ⟨r, hr, -⟩ := h.ranked q hq
  rw [State.normalRank_retireHoldingSolar, if_pos rfl] at hr
  cases hr

/-- Those taken stand ahead of those left that might have been taken (R96). -/
theorem Taken.ahead {ts : List PortId} {s : State} (h : Taken st p rank wanted ts s) {q q' : PortId} {r r' : Nat}
    (hq : q ∈ ts) (hq' : q' ∉ ts) (hr : s.arbiter.normalRank q = some r) (hr' : s.arbiter.normalRank q' = some r')
    (hlt : rank < r') : Ahead q r q' r' := by
  induction h with
  | nil => exact absurd hq List.not_mem_nil
  | @cons s k ts short next rest ih =>
    obtain ⟨rk, hrk, -, best⟩ := Arbiter.nextOutranked_some next
    have hk' : q' ≠ k := fun e => hq' (e ▸ List.mem_cons_self)
    rcases List.mem_cons.mp hq with rfl | hq
    · rw [hr] at hrk
      cases hrk
      exact (best q' r' hr' hlt).resolve_left hk'
    · have hk : q ≠ k := fun e => rest.not_mem (e ▸ hq)
      refine ih hq (fun h => hq' (List.mem_cons_of_mem k h)) ?_ ?_
      · rw [State.normalRank_retireHoldingSolar, if_neg hk, hr]
      · rw [State.normalRank_retireHoldingSolar, if_neg hk', hr']

theorem Ahead.irrefl {q : PortId} {r : Nat} : ¬Ahead q r q r := by
  rintro (h | ⟨-, h⟩)
  · exact Nat.lt_irrefl r h
  · exact Nat.lt_irrefl _ h

theorem Ahead.asymm {q q' : PortId} {r r' : Nat} (h : Ahead q r q' r') : ¬Ahead q' r' q r := by
  unfold Ahead at *
  omega

/-- The free need rests on the grants alone. -/
theorem freeNeed_congr {a b : Arbiter} (h : ∀ q, a.grants.get q = b.grants.get q) : freeNeed st a p = freeNeed st b p := by
  simp only [freeNeed, Arbiter.heldBackByOthers, h]

/-- Each was taken while the free need, those ahead of it gone, was still below the wanted Wh (R96). -/
theorem Taken.needed {ts : List PortId} {s : State} (h : Taken st p rank wanted ts s) {q : PortId} {r : Nat} (hq : q ∈ ts)
    (hr : s.arbiter.normalRank q = some r) {a : Arbiter}
    (gone : ∀ k r', k ∈ ts → s.arbiter.normalRank k = some r' → Ahead k r' q r → a.grants.get k = none)
    (stay : ∀ k, (∀ r', k ∈ ts → s.arbiter.normalRank k = some r' → ¬Ahead k r' q r) → a.grants.get k = s.grant k) :
    freeNeed st a p < wanted := by
  induction h with
  | nil => exact absurd hq List.not_mem_nil
  | @cons s k ts short next rest ih =>
    obtain ⟨rk, hrk, -, best⟩ := Arbiter.nextOutranked_some next
    have ranked := rest.ranked
    rcases List.mem_cons.mp hq with rfl | hq
    · -- the first taken: none stood ahead of it
      rw [hr] at hrk
      cases hrk
      have same : ∀ j, a.grants.get j = s.arbiter.grants.get j := fun j => stay j fun r' hj hrj hahead => by
        obtain ⟨r'', hr'', hlt⟩ := (Taken.cons short next rest).ranked j hj
        rw [hrj] at hr''
        cases hr''
        rcases best j r' hrj hlt with rfl | hfirst
        · rw [hr] at hrj
          cases hrj
          exact Ahead.irrefl hahead
        · exact hfirst.asymm hahead
      rw [freeNeed_congr same]
      exact short
    · have hkq : q ≠ k := fun e => rest.not_mem (e ▸ hq)
      have ranks : ∀ j, j ≠ k → (s.retireHoldingSolar k .outranked).arbiter.normalRank j = s.arbiter.normalRank j :=
        fun j hj => by rw [State.normalRank_retireHoldingSolar, if_neg hj]
      have kAhead : Ahead k rk q r := by
        obtain ⟨r'', hr'', hlt⟩ := (Taken.cons short next rest).ranked q (List.mem_cons_of_mem k hq)
        rw [hr] at hr''
        cases hr''
        exact (best q r hr hlt).resolve_left hkq
      refine ih hq (by rw [ranks q hkq, hr]) (fun j r' hj hrj hahead => ?_) fun j hj => ?_
      · have hjk : j ≠ k := fun e => rest.not_mem (e ▸ hj)
        exact gone j r' (List.mem_cons_of_mem k hj) (by rw [← ranks j hjk, hrj]) hahead
      · rw [State.grant_retireHoldingSolar]
        by_cases hjk : j = k
        · rw [if_pos hjk, hjk]
          exact gone k rk List.mem_cons_self hrk kAhead
        · rw [if_neg hjk]
          refine stay j fun r' hmem hrj => hj r' ((List.mem_cons.mp hmem).resolve_left hjk) ?_
          rw [ranks j hjk, hrj]

/-- What those taken leave: their ports' last ends, no entry of the resume list, and every other port as it was. -/
theorem Taken.leaves {ts : List PortId} {s : State} (h : Taken st p rank wanted ts s) :
    s.KeepsFigures (s.retireAll .outranked ts) ∧ (s.retireAll .outranked ts).hygiene = s.hygiene
      ∧ (∀ q, q ∉ ts → (s.retireAll .outranked ts).port q = s.port q)
      ∧ (∀ q g, q ∈ ts → s.grant q = some g →
        (s.retireAll .outranked ts).port q = { s.port q with lastEnd := some { handle := g.handle, reason := .outranked } })
      ∧ (∀ q, q ∈ (s.retireAll .outranked ts).arbiter.resume ↔ q ∈ s.arbiter.resume ∧ q ∉ ts) := by
  induction h with
  | nil s => exact ⟨.refl s, rfl, fun _ _ => rfl, fun _ _ h => absurd h List.not_mem_nil, by simp [State.retireAll]⟩
  | @cons s k ts short next rest ih =>
    obtain ⟨figures, hygiene, others, own, resume⟩ := ih
    obtain ⟨rk, hrk, -⟩ := Arbiter.nextOutranked_some next
    obtain ⟨gk, n, hgk, hn⟩ := State.normal_of_normalRank hrk
    have portk := State.port_retireHoldingSolar hgk .outranked
    refine ⟨(s.keepsFigures_retireHoldingSolar k _).trans figures, ?_, fun q hq => ?_, fun q g hq hg => ?_, fun q => ?_⟩
    · refine hygiene.trans (State.retireHoldingSolar_hygiene fun g hg => ?_)
      rw [hgk] at hg
      cases hg
      rw [hn]
      exact nofun
    · have hqk : q ≠ k := fun e => hq (e ▸ List.mem_cons_self)
      exact (others q fun h => hq (List.mem_cons_of_mem k h)).trans (by rw [portk, if_neg hqk])
    · rcases List.mem_cons.mp hq with rfl | hq
      · rw [hgk] at hg
        cases hg
        exact (others q rest.not_mem).trans (by rw [portk, if_pos rfl])
      · have hqk : q ≠ k := fun e => rest.not_mem (e ▸ hq)
        refine (own q g hq ?_).trans ?_
        · rw [State.grant_retireHoldingSolar, if_neg hqk, hg]
        · rw [portk, if_neg hqk]
    · refine (resume q).trans ?_
      rw [State.resume_retireHoldingSolar hgk]
      simp only [List.mem_filter, List.mem_cons, decide_not, Bool.not_eq_true', decide_eq_false_iff_not]
      tauto

end

/-! ### R95 and R96 -/

theorem freeNeed_eq (st : Store) (a : Arbiter) (p : PortId) :
    freeNeed st a p = st.comfortNeed - ((PortId.all.filter (· ≠ p)).map fun q =>
      match a.grants.get q with
      | some g => match g.cls with | .normal n => n.budget - g.delivered | .mustTake _ => 0 | .hygiene => 0
      | none => 0).sum := by
  have held : (fun q => ((a.grants.get q).map Grant.heldBack).getD 0) = fun q =>
      match a.grants.get q with
      | some g => match g.cls with | .normal n => n.budget - g.delivered | .mustTake _ => 0 | .hygiene => 0
      | none => 0 := by
    funext q
    cases a.grants.get q <;> rfl
  rw [freeNeed, Arbiter.heldBackByOthers, held]

/-- Outranking is the retirement of the ports it takes, and stops with the need covered or nobody left to end (R96). -/
theorem State.outrank_spec (s : State) (st : Store) (p : PortId) (rank wanted : Nat) : ∃ ts,
    Taken st p rank wanted ts s ∧ s.outrank st p rank wanted = s.retireAll .outranked ts
      ∧ (wanted ≤ freeNeed st (s.outrank st p rank wanted).arbiter p
        ∨ (s.outrank st p rank wanted).arbiter.nextOutranked rank = none) := by
  obtain ⟨ts, ht, he⟩ := State.outrankUpTo_taken (st := st) (p := p) (rank := rank) (wanted := wanted) PortId.all.length s
  exact ⟨ts, ht, he, State.outrankUpTo_ends _ s PortId.all (Nat.le_refl _) fun q _ => PortId.mem_all q⟩

/-- Settles O35: the ports taken are those whose grant is gone, and each was the next to end when it was taken. -/
theorem outrankingTakesTheLowestRankFirst : Obligations.OutrankingTakesTheLowestRankFirst := by
  refine ⟨freeNeed_eq, fun s st p rank wanted => ?_⟩
  obtain ⟨ts, ht, he, ends⟩ := s.outrank_spec st p rank wanted
  obtain ⟨figures, hygiene, others, own, resume⟩ := ht.leaves
  intro u ranked
  have hu : u = s.retireAll .outranked ts := he
  have grant (q : PortId) : u.grant q = if q ∈ ts then none else s.grant q := by rw [hu, State.grant_retireAll]
  have held (q : PortId) (h : q ∈ ts) : s.grant q ≠ none := by
    obtain ⟨r, hr, -⟩ := ht.ranked q h
    obtain ⟨g, n, hg, -⟩ := State.normal_of_normalRank hr
    rw [hg]
    exact Option.some_ne_none g
  have taken (q : PortId) (h : s.grant q ≠ none) (h' : u.grant q = none) : q ∈ ts := by
    by_contra hq
    rw [grant, if_neg hq] at h'
    exact h h'
  have rankOf (a : Arbiter) (q : PortId) (r : Nat) : ranked a q r ↔ a.normalRank q = some r :=
    Arbiter.normalRank_eq_some.symm
  have rankLeft (q : PortId) (r : Nat) (h : u.arbiter.normalRank q = some r) :
      q ∉ ts ∧ s.arbiter.normalRank q = some r := by
    obtain ⟨g, n, c, hg, hn, hc, hr⟩ := Arbiter.normalRank_eq_some.mp h
    have hgu : u.grant q = some g := hg
    rw [grant] at hgu
    split at hgu
    · cases hgu
    · next hq =>
      have port : u.port q = s.port q := hu ▸ others q hq
      exact ⟨hq, Arbiter.normalRank_eq_some.mpr ⟨g, n, c, hgu, hn, by rw [← hc]; exact congrArg Port.config port.symm, hr⟩⟩
  refine ⟨fun hcovered => ?covered, hu ▸ s.touches_retireAll _ _, hu ▸ hygiene, hu ▸ figures.choices, fun q g hg hn => ?ended,
    fun q hq => ?other, ?stops, fun q q' r r' hg hn hr hr' hlt => ?order, fun q r hg hn hr a gone stay => ?needed⟩
  case covered =>
    have unfolded : s.outrank st p rank wanted = s := if_pos hcovered
    exact unfolded
  case ended =>
    have hq := taken q (by rw [hg]; exact Option.some_ne_none g) hn
    obtain ⟨r, hr, hlt⟩ := ht.ranked q hq
    refine ⟨⟨r, (rankOf _ q r).mpr hr, hlt⟩, hu ▸ own q g hq hg, ?_⟩
    rw [hu, resume]
    exact fun h => h.2 hq
  case other =>
    have hq' : q ∉ ts := by
      intro h
      rcases hq with hnone | hsome
      · exact held q h hnone
      · exact hsome (by rw [grant, if_pos h])
    exact ⟨by rw [grant, if_neg hq'], hu ▸ others q hq'⟩
  case stops =>
    refine ends.imp_right fun hnone q r hr => ?_
    exact Arbiter.nextOutranked_none hnone ((rankOf _ q r).mp hr)
  case order =>
    obtain ⟨hq', hrank⟩ := rankLeft q' r' ((rankOf _ q' r').mp hr')
    exact ht.ahead (taken q hg hn) hq' ((rankOf _ q r).mp hr) hrank hlt
  case needed =>
    have hrank := (rankOf _ q r).mp hr
    refine ht.needed (taken q hg hn) hrank (fun k r' hk hrk hahead => gone k ?_) fun k hk => stay k ?_
    · exact ⟨held k hk, by rw [grant, if_pos hk], r', (rankOf _ k r').mpr hrk, hahead.imp_right (And.imp_left Eq.symm)⟩
    · rintro ⟨hs, hn', r', hrk, hahead⟩
      exact hk r' (taken k hs hn') ((rankOf _ k r').mp hrk) (hahead.imp_right (And.imp_left Eq.symm))

/-- Outranking is a row of retirements of NORMAL grants. -/
theorem acts_outrank {re : Reach} (s : State) (st : Store) (p : PortId) (rank wanted : Nat) :
    Acts re s (s.outrank st p rank wanted) := by
  obtain ⟨ts, ht, he, -⟩ := s.outrank_spec st p rank wanted
  rw [he]
  clear he
  induction ht with
  | nil => exact .refl
  | @cons s q ts short next rest ih =>
    obtain ⟨r, hr, -⟩ := Arbiter.nextOutranked_some next
    obtain ⟨g, n, hg, hn⟩ := State.normal_of_normalRank hr
    refine (Operation.retireNormal s q .outranked fun k hk => ⟨n, ?_⟩).acts.trans ih
    rw [← Option.some.inj (hg.symm.trans hk), hn]

end Sys2Proof.Machine
end

section
/-!
PROOF. Every command as a row of acts: first the work of the blocks that own the requests, one lemma a request, then the
expiries and the Link Controller's own commands, and the theorem over all of them.
-/

namespace Sys2Proof.Machine

open Relation (ReflTransGen)

/-! ### The shapes of a request's work -/

section
variable {r : Reach} {s : State}

theorem acts_onStore {f : Store → State → Reply} (h : ∀ st, s.store = some st → Acts r s (f st s).state) :
    Acts r s (s.onStore f).state := by
  unfold State.onStore
  split
  · next st hst => exact h st hst
  · exact .refl

theorem acts_onPort {ch : Channel} {f : PortId → State → Reply} (h : ∀ p, Acts r s (f p s).state) :
    Acts r s (s.onPort ch f).state := by
  unfold State.onPort
  split
  · next p _ => exact h p
  · exact .refl

theorem acts_onConfiguredPort {ch : Channel} {f : PortId → PortConfig → Store → State → Reply}
    (h : ∀ p c st, Acts r s (f p c st s).state) : Acts r s (s.onConfiguredPort ch f).state :=
  acts_onPort fun p => acts_onStore fun st _ => by
    split
    · exact .refl
    · next c _ => exact h p c st

theorem acts_owned {owner : List Byte → State → Reply} (body : LongBody) (h : ∀ p, Acts r s (owner p s).state) :
    Acts r s (body.owned owner s).state := by
  cases body with
  | marked count => exact .refl
  | full p crc => exact h p

/-- A request that leaves its owner's state as it was. -/
theorem acts_same {u : Reply} (h : u.state = s) : Acts r s u.state := by
  rw [h]

/-! ### The Charge Arbiter's requests -/

theorem Grant.Kept.of_cls {g h : Grant} (cls : h.cls = g.cls) (handle : h.handle = g.handle)
    (supply : h.declaredSupply = g.declaredSupply) (delivered : h.delivered = g.delivered ∨ h.delivered ≤ 4294967295)
    (left : ∀ n, g.cls = .normal n → g.delivered < n.budget → h.delivered < n.budget) : g.Kept h where
  handle := handle
  supply := supply
  delivered := delivered
  mustTake _ hg := cls.trans hg
  hygiene hg := cls.trans hg
  normal n hg := ⟨n, cls.trans hg, Nat.le_refl _, left n hg⟩
  standing n m hn hm := by
    rw [cls, hn] at hm
    cases hm
    exact ⟨rfl, rfl, Iff.rfl⟩

theorem acts_restartLiveness (s : State) (p : PortId) (c : PortConfig) : Acts r s (s.restartLiveness p c) :=
  (Operation.keep s _ (keptGrants_set (f := fun g => { g with liveness := c.liveness * Config.second }) fun _ _ =>
    .of_cls rfl rfl rfl (.inl rfl) fun _ _ h => h)).acts

theorem acts_keepaliveRequest (ch : Channel) (p0 : Byte) (s : State) : Acts r s (s.keepaliveRequest ch p0).state :=
  acts_onConfiguredPort fun p c st => by
    split
    · exact acts_restartLiveness s p c
    · exact .refl
    · exact .refl

theorem acts_releaseRequest (ch : Channel) (p0 : Byte) (s : State) : Acts r s (s.releaseRequest ch p0).state :=
  acts_onConfiguredPort fun p c st => by
    split
    · exact (Operation.retire s p .released (by decide)).acts
    · exact .refl
    · exact .refl

theorem acts_revokeRequest (p0 : Byte) (s : State) : Acts r s (s.revokeRequest p0).state :=
  acts_onStore fun st _ => by
    split
    · exact .refl
    · next p _ =>
      split
      · exact .refl
      · exact (Operation.retire s p .revoked (by decide)).acts

theorem acts_setForecastRequest (p0 p1 : Byte) (s : State) : Acts r s (State.setForecastRequest p0 p1 s).state :=
  acts_onStore fun _ _ => (Operation.figures s _ 0).acts

/-- The entry a CONFIGURE_PORT names, where it fits, is one the store admits (R77, R82). -/
theorem PortFields.entry_inStore {f : PortFields} {e : Entry} {volume : Nat} (he : f.entry = some e)
    (hf : e.fits volume = true) : e.InStore volume := by
  unfold PortFields.entry at he
  split at he <;> cases he
  · obtain ⟨h1, h2⟩ := Bool.and_eq_true_iff.mp hf
    exact ⟨of_decide_eq_true h2, of_decide_eq_true h1⟩
  · exact ⟨Nat.le_max_left _ _, of_decide_eq_true hf⟩
  · exact of_decide_eq_true (p := f.height ≤ volume) hf

theorem acts_takePortConfig (s : State) (p : PortId) (c : Option PortConfig) (hg : ¬(s.grant p).isSome)
    (hc : ∀ d, c = some d → ∃ st, s.store = some st ∧ d.entry.InStore st.cfg.volume) :
    Acts r s (s.takePortConfig p c).state :=
  .single (.port s p _ rfl (.inr ⟨by simpa using hg, hc⟩))

theorem acts_configurePortRequest (payload : List Byte) (s : State) :
    Acts r s (State.configurePortRequest payload s).state :=
  acts_onStore fun st hst => by
    dsimp only
    split
    · exact .refl
    · next p _ =>
      split
      · exact .refl
      · split
        · split
          · exact .refl
          · next hg => exact acts_takePortConfig s p none hg nofun
        · split
          · exact .refl
          · next e he =>
            split
            · exact .refl
            · split
              · exact .refl
              · next hf =>
                split
                · exact .refl
                · next hg =>
                  split
                  · exact .refl
                  · refine acts_takePortConfig s p _ hg fun d hd => ⟨st, hst, ?_⟩
                    cases hd
                    exact PortFields.entry_inStore he (by simpa using hf)

theorem State.config_retireAll (r : Reason) (q : PortId) : ∀ (ps : List PortId) (s : State),
    ((s.retireAll r ps).port q).config = (s.port q).config
  | [], _ => rfl
  | p :: ps, s => (State.config_retireAll r q ps _).trans (s.config_retireHoldingSolar p r q)

theorem field16_lt (p : List Byte) (offset : Nat) : field16 p offset ≤ 65535 := by
  have h0 := (p.getD offset 0).isLt
  have h1 := (p.getD (offset + 1) 0).isLt
  rw [field16, word16]
  omega

theorem acts_requestNormal {p : PortId} {c : PortConfig} {st : Store} {kind : AuxKind} {rank wanted supply : Nat}
    (hst : s.store = some st) (hc : (s.port p).config = some c) (hsrc : c.source = .auxiliary kind rank)
    (hg : s.grant p = none) (hw : wanted ≤ 65535) (hs : supply ≤ 11000) :
    Acts r s (s.requestNormal p c st rank wanted supply).state := by
  unfold State.requestNormal
  split
  · exact .refl
  · next hover =>
    split
    · exact .refl
    · next hholiday =>
      split
      · exact .refl
      · split
        · exact .refl
        · have outranked := acts_outrank (re := r) s st p rank wanted
          dsimp only
          split
          · exact outranked
          · next ha =>
            obtain ⟨ts, -, he, -⟩ := s.outrank_spec st p rank wanted
            refine outranked.tail (.grant _ p c st _ supply ?_ nofun)
            have figures : s.KeepsFigures (s.outrank st p rank wanted) := he ▸ s.keepsFigures_retireAll _ ts
            have overheat : (s.outrank st p rank wanted).arbiter.overheat = false :=
              figures.overheat.trans (by simpa using hover)
            refine
              { store := figures.store.trans hst
                config := ?_, free := ?_, admits := hsrc ▸ trivial, supply := hs, mustTake := nofun
                normal := fun n hn => ?_ }
            · rw [he, State.config_retireAll, hc]
            · rw [he, State.grant_retireAll, hg, ite_self]
            · cases hn
              have budget := allowance_le st (s.outrank st p rank wanted).arbiter p wanted
              exact ⟨overheat, by simpa using hholiday, Nat.pos_of_ne_zero ha, budget.trans hw, rfl, rfl⟩

theorem acts_requestHygiene {p : PortId} {c : PortConfig} {st : Store} {kind : AuxKind} {rank supply : Nat}
    (hst : s.store = some st) (hc : (s.port p).config = some c) (hsrc : c.source = .auxiliary kind rank)
    (hg : s.grant p = none) (hs : supply ≤ 11000) : Acts r s (s.requestHygiene p c st supply).state := by
  unfold State.requestHygiene
  split
  · exact .refl
  · next hover =>
    split
    · exact .refl
    · next hdue =>
      refine .single (.hygieneGrant s p c st supply _ ?_ (by simpa using hover) (not_ne_iff.mp hdue))
      exact
        { store := hst, config := hc, free := hg, admits := hsrc ▸ trivial, supply := hs, mustTake := nofun
          normal := nofun }

theorem acts_requestChargeRequest (ch : Channel) (payload : List Byte) (s : State) :
    Acts r s (s.requestChargeRequest ch payload).state :=
  acts_onPort fun p => by
    dsimp only
    split
    · exact .refl
    · exact .refl
    · next st c hst hc =>
      have supply := clampTemp_le (ChargeFields.ofPayload payload).supply
      split
      · exact .refl
      · split
        · next kind hsrc =>
          split
          · exact .refl
          · split
            · exact .refl
            · next hg =>
              refine .single (.grant s p c st _ _ ?_ nofun)
              exact
                { store := hst, config := hc, free := by simpa using hg, admits := hsrc ▸ trivial, supply := supply
                  mustTake := fun _ h => (GrantClass.mustTake.inj h).symm, normal := nofun }
        · next kind rank hsrc =>
          split
          · split
            · exact .refl
            · split
              · exact .refl
              · next hg => exact acts_requestNormal hst hc hsrc (by simpa using hg) (field16_lt _ _) supply
          · split
            · exact .refl
            · split
              · exact .refl
              · next hg => exact acts_requestHygiene hst hc hsrc (by simpa using hg) supply

/-! ### DEPOSIT -/

theorem acts_layIn (hw : r.water = true) {p : PortId} {c : PortConfig} {st : Store} (hst : s.store = some st)
    (hc : (s.port p).config = some c) (e sent : Nat) : Acts r s (s.layIn c st e sent).1 := by
  have raised := acts_raiseIf (r := r) s
    (depositList st.cfg c.entry (heatOfWh e) (c.supply sent) st.strata).2 .forcedMerge
  refine raised.trans (acts_withStrata hw (by rw [State.raiseIf_store, hst]) fun hs => ?_)
  refine (hs.store (by rw [State.raiseIf_store, hst])).deposit ?_ _ _
  refine (hs st (by rw [State.raiseIf_store, hst])).2.1 p c ?_
  rw [State.port, State.raiseIf_arbiter]
  exact hc

theorem acts_absorbed (s : State) (p : PortId) (a : Nat) :
    Acts r s (s.changePort p fun port => { port with absorbed := addTotal port.absorbed a }) :=
  .single (.port s p _ rfl (.inl rfl))

theorem PerPort.set_set {α : Type} (t : PerPort α) (p : PortId) (a b : α) : (t.set p a).set p b = t.set p b := by
  cases p <;> rfl

/-- The end of a NORMAL grant is the same whatever was last booked to it. -/
theorem State.retireHoldingSolar_changeGrant {s : State} {p : PortId} {g : Grant} {n : NormalGrant} {f : Grant → Grant}
    (hg : s.grant p = some g) (hn : g.cls = .normal n) (handle : (f g).handle = g.handle) (cls : (f g).cls = g.cls)
    (reason : Reason) : (s.changeGrant p f).retireHoldingSolar p reason = s.retireHoldingSolar p reason := by
  have hg' : (s.changeGrant p f).grant p = some (f g) := by rw [State.grant_changeGrant, if_pos rfl, hg, Option.map_some]
  rw [State.retireHoldingSolar_of_grant hg' fun h => ?_, State.retireHoldingSolar_of_grant hg fun h => ?_, handle]
  · simp only [Arbiter.endGrant, State.changeGrant, Arbiter.changeGrant, PerPort.set_set]
  · rw [hn] at h
    exact nomatch h.1
  · rw [cls, hn] at h
    exact nomatch h.1

/-- The grant a deposit was booked to (R52). -/
theorem State.grant_bookGranted {s : State} {p : PortId} {g : Grant} (hg : s.grant p = some g) (c : PortConfig) (a : Nat) :
    (s.bookGranted p c a).grant p = some (g.book c a) := by
  have changed : (s.changeGrant p (Grant.book c a)).grant p = some (g.book c a) := by
    rw [State.grant_changeGrant, if_pos rfl, hg, Option.map_some]
  exact changed

/-- A booking that leaves a NORMAL grant below its budget. -/
theorem acts_bookGranted {p : PortId} {g : Grant} (hg : s.grant p = some g) (c : PortConfig) (a : Nat)
    (hb : ∀ n, g.cls = .normal n → (g.book c a).delivered < n.budget) : Acts r s (s.bookGranted p c a) := by
  refine Relation.ReflTransGen.trans ?_ (acts_absorbed _ p a)
  refine (Operation.keep s _ (keptGrants_set fun k hk => ?_)).acts
  have same : g = k := Option.some.inj (hg.symm.trans hk)
  subst same
  exact .of_cls rfl rfl rfl (.inr (Nat.min_le_right _ _)) fun n hn _ => hb n hn

/-- The booking of a matched deposit and what it decides for its grant (R52 to R54). -/
theorem acts_settleGranted {p : PortId} {g : Grant} (hg : s.grant p = some g) (c : PortConfig) (st : Store) (a : Nat) :
    Acts r s ((s.bookGranted p c a).settleGranted p st a) := by
  have booked := State.grant_bookGranted hg c a
  unfold State.settleGranted
  rw [booked]
  dsimp only
  cases hcls : g.cls with
  | normal n =>
    have hcls' : (g.book c a).cls = .normal n := hcls
    simp only [hcls']
    split
    · -- the grant completes: its end does not depend on what was booked
      have ended : (s.bookGranted p c a).retireHoldingSolar p .completed
          = (s.changePort p fun port => { port with absorbed := addTotal port.absorbed a }).retireHoldingSolar p
            .completed :=
        State.retireHoldingSolar_changeGrant
          (s := s.changePort p fun port => { port with absorbed := addTotal port.absorbed a })
          (f := Grant.book c a) hg hcls rfl rfl .completed
      rw [ended]
      refine (acts_absorbed s p a).trans (Operation.retireNormal _ p .completed fun k hk => ⟨n, ?_⟩).acts
      rw [← Option.some.inj (hg.symm.trans hk), hcls]
    · next hleft =>
      refine acts_bookGranted hg c a fun m hm => ?_
      rw [hcls] at hm
      cases hm
      exact Nat.not_le.mp hleft
  | mustTake held =>
    have hcls' : (g.book c a).cls = .mustTake held := hcls
    simp only [hcls']
    have counted := (acts_bookGranted (r := r) hg c a fun n hn => by rw [hcls] at hn; cases hn).trans
      (Operation.figures _ (s.bookGranted p c a).arbiter.forecast
        (addTotal (s.bookGranted p c a).arbiter.mustTakeHeat a)).acts
    split
    · exact counted.tail (.operation (.productive _ ⟨p, g.book c a, held, booked, hcls⟩))
    · exact counted
  | hygiene =>
    have hcls' : (g.book c a).cls = .hygiene := hcls
    simp only [hcls']
    exact acts_bookGranted hg c a fun n hn => by rw [hcls] at hn; cases hn

theorem State.matchHandle_eq_current {s : State} {p : PortId} {handle : Byte} {g : Grant}
    (h : s.matchHandle p handle = .current g) : s.grant p = some g := by
  unfold State.matchHandle at h
  split at h
  · next k hk =>
    cases h
    exact (Option.filter_eq_some_iff.mp hk).1
  · split at h <;> cases h

theorem State.layIn_arbiter (s : State) (c : PortConfig) (st : Store) (e sent : Nat) :
    (s.layIn c st e sent).1.arbiter = s.arbiter := by
  simp only [State.layIn, State.withStrata_arbiter, State.raiseIf_arbiter]

theorem acts_matchedDeposit (hw : r.water = true) {p : PortId} {c : PortConfig} {st : Store} {g : Grant}
    (hst : s.store = some st) (hc : (s.port p).config = some c) (hg : s.grant p = some g) (e sent : Nat) :
    Acts r s (s.matchedDeposit p c st g e sent).state := by
  unfold State.matchedDeposit
  split
  · exact acts_restartLiveness s p c
  · have hg' : (s.layIn c st e sent).1.grant p = some g := by
      rw [State.grant, State.layIn_arbiter]
      exact hg
    exact ((acts_layIn hw hst hc e sent).trans (acts_settleGranted hg' c st _)).trans (acts_depositReport _ _)

theorem acts_unmatchedDeposit (hw : r.water = true) {p : PortId} {c : PortConfig} {st : Store} (hst : s.store = some st)
    (hc : (s.port p).config = some c) (status : Status) (outcome e sent : Nat) :
    Acts r s (s.unmatchedDeposit p c st status outcome e sent).state := by
  unfold State.unmatchedDeposit
  split
  · exact .refl
  · refine Relation.ReflTransGen.trans ?_ (acts_modelChanged _)
    exact ((acts_layIn hw hst hc e sent).tail (.port _ p
      { (s.layIn c st e sent).1.port p with
        ungranted := addTotal ((s.layIn c st e sent).1.port p).ungranted (s.layIn c st e sent).2 } rfl
      (.inl rfl))).tail (.operation (.raise _ .ungrantedHeat))

theorem acts_depositRequest (hw : r.water = true) (ch : Channel) (payload : List Byte) (s : State) :
    Acts r s (s.depositRequest ch payload).state :=
  acts_onPort fun p => by
    dsimp only
    split
    · exact .refl
    · exact .refl
    · next st c hst hc =>
      split
      · next g hm => exact acts_matchedDeposit hw hst hc (State.matchHandle_eq_current hm) _ _
      · exact acts_unmatchedDeposit hw hst hc _ _ _ _
      · exact acts_unmatchedDeposit hw hst hc _ _ _ _

/-! ### The Store Model's requests and timers -/

theorem acts_setModeRequest (hw : r.water = true) (p0 : Byte) (s : State) : Acts r s (s.setModeRequest p0).state :=
  acts_onStore fun st hst => by
    split
    · split
      · exact (ReflTransGen.single (.running s st hw hst)).tail (.operation (.compareComfort _))
      · exact .refl
    · split
      · split
        · exact .refl
        · exact .single (.enterHoliday s st hw hst)
      · exact .refl

theorem clamp_le {lo hi : Nat} (h : lo ≤ hi) (n : Nat) : clamp lo hi n ≤ hi := (clamp_bounds h n).2

theorem acts_setMainsRequest (hw : r.water = true) (p0 p1 : Byte) (s : State) :
    Acts r s (s.setMainsRequest p0 p1).state :=
  acts_onStore fun st hst => .single (.store s st _ hw hst rfl rfl fun hs => by
    obtain ⟨cfg, volume, length, normal, ranges, -, ambient⟩ := hs.store hst
    exact ⟨cfg, volume, length, normal, ranges, clamp_le (Nat.zero_le _) _, ambient⟩)

theorem acts_setAmbientRequest (hw : r.water = true) (p0 p1 : Byte) (s : State) :
    Acts r s (s.setAmbientRequest p0 p1).state :=
  acts_onStore fun st hst => .single (.store s st _ hw hst rfl rfl fun hs => by
    obtain ⟨cfg, volume, length, normal, ranges, mains, -⟩ := hs.store hst
    exact ⟨cfg, volume, length, normal, ranges, mains, clamp_le (Nat.zero_le _) _⟩)

/-- What StoreSound rests on: the store, the ports' configurations and the probes. -/
theorem State.StoreSound.of_fields {s t : State} (h : s.StoreSound) (store : t.store = s.store)
    (ports : t.arbiter.ports = s.arbiter.ports) (probes : t.probes = s.probes) : t.StoreSound := by
  intro st hst
  obtain ⟨sound, entries, heights, readings⟩ := h st (store ▸ hst)
  refine ⟨sound, fun p c hc => entries p c ?_, fun n c hc => heights n c (probes ▸ hc),
    fun n r hr => readings n r (probes ▸ hr)⟩
  rw [State.port, ← ports]
  exact hc

theorem acts_carryOutDraw (hw : r.water = true) {st : Store} (hst : s.store = some st) {volume : Nat}
    (hv : s.StoreSound → 1 ≤ volume ∧ volume ≤ st.cfg.volume) : Acts r s (s.carryOutDraw st volume).state := by
  unfold State.carryOutDraw
  refine Relation.ReflTransGen.trans ?_ (acts_modelChanged _)
  have hst' (c : Bool) : (s.raiseIf c .forcedMerge).store = some st := by rw [State.raiseIf_store, hst]
  refine (acts_raiseIf s _ .forcedMerge).trans (acts_withStrata hw (hst' _) fun hs => ?_)
  have sound : s.StoreSound := hs.of_fields (State.raiseIf_store s _ _).symm (by rw [State.raiseIf_arbiter])
    (by rw [State.raiseIf_probes])
  exact (hs.store (hst' _)).draw (hv sound).1 (hv sound).2

theorem acts_drawRequest (hw : r.water = true) (p0 p1 : Byte) (s : State) :
    Acts r s (s.drawRequest p0 p1).state :=
  acts_onStore fun st hst => by
    dsimp only
    split
    · exact .refl
    · next h0 =>
      split
      · refine (Operation.raise s .drawClamped).acts.trans
          (acts_carryOutDraw (s := s.raise .drawClamped) hw hst fun hs => ⟨?_, Nat.le_refl _⟩)
        exact Nat.le_trans (by decide) (hs.store hst).cfg_inRange.volume_pos
      · next hv => exact acts_carryOutDraw hw hst fun _ => ⟨Nat.pos_of_ne_zero h0, Nat.not_lt.mp hv⟩

end

end Sys2Proof.Machine
end

section
/-!
PROOF. The rest of the commands as rows of acts: probes, the Store Model's rebuilds, the resets and the Link Controller, and
the theorem over all commands, which says of each what it reaches.
-/

namespace Sys2Proof

open Machine

/-- The commands that may change the water, its configuration or its mode (R21, R177). -/
def Instr.water : Instr → Bool
  | .setMode _ _ _ | .setMains _ _ _ | .setAmbient _ _ _ | .draw _ _ _ | .reseed _ _ _ | .configureStore _ _
  | .deposit _ _ | .lossIntervalExpiry | .hygieneMinuteExpiry | .probeCorrection | .probeReply _ _ _
  | .resetGrantsTakesEffect => true
  | _ => false

/-- The commands that may change a probe record (R147). -/
def Instr.records : Instr → Bool
  | .reseed _ _ _ | .relock _ _ _ | .clearMinMax _ _ _ | .clearAlarm _ _ _ | .configureStore _ _ | .configureProbe _ _
  | .conversionTimeout | .probeReply _ _ _ | .lockoutHoldExpiry _ => true
  | _ => false

/-- The commands whose owner changes the Link Controller (R174). -/
def Instr.relinks : Instr → Bool
  | .reset _ _ _ => true
  | _ => false

/-- The commands that are no row of acts: power and the pins, a reset of every block, and the two requests for the Notice
Register. -/
def Instr.isApart : Instr → Bool
  | .powerOn | .resetPinLow | .resetPinRelease | .resetFullTakesEffect | .rateStrapChange _ _ | .notices _ _ _
  | .noticeEnable _ _ _ => true
  | _ => false

/-- What the work of a command's owner reaches. -/
def Instr.ownerReach (c : Instr) : Reach := { water := c.water, probes := c.records, link := c.relinks }

/-- What a command reaches, its message taken and answered. -/
def Instr.reach (c : Instr) : Reach := { water := c.water, probes := c.records, link := true }

end Sys2Proof

namespace Sys2Proof.Machine

open Relation (ReflTransGen)

section
variable {r : Reach}

/-! ### RESEED and CONFIGURE_STORE -/

/-- A sound store rebuilt from the probes it may be rebuilt from (R34, R35). -/
theorem State.StoreSound.reseed {s : State} (hs : s.StoreSound) {st : Store} (hst : s.store = some st)
    (hr : s.usableReadings ≠ []) :
    Store.Sound { st with strata := reseedList st.cfg s.usableReadings st.strata } := by
  obtain ⟨sound, -, heights, readings⟩ := hs st hst
  obtain ⟨ascending, len, members⟩ := s.usableReadings_spec
  refine sound.reseed hr len ascending fun x hx => ?_
  obtain ⟨n, hn, -⟩ := (members x.1 x.2).mp hx
  obtain ⟨-, c, hc, hh, hl⟩ := Probe.usable_eq_some.mp hn
  exact ⟨hh ▸ heights n c hc, readings n x.2 hl⟩

theorem acts_reseedRequest (hw : r.water = true) (hp : r.probes = true) (s : State) : Acts r s s.reseedRequest.state := by
  cases hst : s.store with
  | none => exact acts_same (by simp only [State.reseedRequest, State.onStore, hst, State.answer])
  | some st =>
    by_cases hr : s.usableReadings = []
    · rw [State.reseedRequest_none hst hr]
      exact .refl
    · rw [State.reseedRequest_eq hst hr]
      refine Relation.ReflTransGen.trans ?_ (acts_modelChanged _)
      refine (acts_withStrata hw hst fun hs => hs.reseed hst hr).tail (.probes _ _ hp fun n => ?_)
      rw [PerProbe.get_map]
      exact .of_same rfl rfl

theorem acts_startStore (hw : r.water = true) (hp : r.probes = true) (s : State) {cfg : StoreConfig} (hc : cfg.InRange) :
    Acts r s (s.startStore cfg) :=
  (ReflTransGen.single (.start s cfg _ _ hw hp hc)).trans (acts_modelChanged _)

theorem acts_configureStoreRequest (hw : r.water = true) (hp : r.probes = true) (payload : List Byte) (s : State) :
    Acts r s (State.configureStoreRequest payload s).state := by
  unfold State.configureStoreRequest
  dsimp only
  split
  · exact .refl
  · next hv =>
    split
    · exact .refl
    · next hf =>
      split
      · exact .refl
      · obtain ⟨low, high⟩ := not_or.mp hv
        exact acts_startStore hw hp s
          (StoreConfig.tuned_inRange (Nat.not_lt.mp low) (Nat.not_lt.mp high) (by simpa using hf))

/-! ### The probes -/

theorem acts_scanRequest (s : State) : Acts r s s.scanRequest.state := acts_onStore fun _ _ => acts_takeStart s

theorem Probe.relock_config (p : Probe) : p.relock.config = p.config := by
  unfold Probe.relock
  split <;> rfl

theorem Probe.relock_last (p : Probe) : p.relock.last = p.last := by
  unfold Probe.relock
  split <;> rfl

theorem acts_if {s : State} {c : Bool} {f : State → State} (h : Acts r s (f s)) : Acts r s (if c then f s else s) := by
  split
  · exact h
  · exact .refl

/-- The state of a PROBE_CLEAR's actions, by the bits of its sum: relock, then clear min/max, then clear alarm (R158). -/
def State.clearActions (s : State) (n : ProbeId) (sum : Byte) : State :=
  let s := if sum.getLsbD 0 then s.changeProbe n Probe.relock else s
  let s := if sum.getLsbD 1 then s.changeProbe n fun p => { p with minimum := none, maximum := none } else s
  if sum.getLsbD 2 then s.setAlarm n false else s

theorem State.probeClearRequest_eq {s : State} {st : Store} {n : ProbeId} {p0 p1 : Byte} (hst : s.store = some st)
    (hn : ProbeId.ofNumber p0.toNat = some n) (h7 : p1.toNat ≤ 7) :
    State.probeClearRequest p0 p1 s
      = (s.clearActions n p1).answer .ok ((s.clearActions n p1).probes.get n).state.code := by
  simp only [State.probeClearRequest, State.onStore, hst, hn, if_neg (Nat.not_lt.mpr h7)]
  rfl

theorem State.probeClearRequest_range {s : State} {st : Store} {p0 p1 : Byte} (hst : s.store = some st)
    (h : ProbeId.ofNumber p0.toNat = none ∨ 7 < p1.toNat) : State.probeClearRequest p0 p1 s = s.answer .errRange := by
  simp only [State.probeClearRequest, State.onStore, hst]
  split
  · rfl
  · next n hn => exact if_pos (h.resolve_left (by rw [hn]; exact Option.some_ne_none n))

theorem acts_clearActions (hp : r.probes = true) (s : State) (n : ProbeId) (sum : Byte) :
    Acts r s (s.clearActions n sum) := by
  have relock : Acts r s (if sum.getLsbD 0 then s.changeProbe n Probe.relock else s) :=
    acts_if (f := fun s => s.changeProbe n Probe.relock)
      (acts_changeProbe hp s n (.of_same (Probe.relock_config _) (Probe.relock_last _)))
  have bounds (t : State) : Acts r t (if sum.getLsbD 1 then
      t.changeProbe n fun p => { p with minimum := none, maximum := none } else t) :=
    acts_if (f := fun t => t.changeProbe n fun p => { p with minimum := none, maximum := none })
      (acts_changeProbe hp t n (.of_same rfl rfl))
  have alarm (t : State) : Acts r t (if sum.getLsbD 2 then t.setAlarm n false else t) :=
    acts_if (f := fun t => t.setAlarm n false) (acts_setAlarm hp t n false)
  exact (relock.trans (bounds _)).trans (alarm _)

theorem acts_probeClearRequest (hp : r.probes = true) (p0 p1 : Byte) (s : State) :
    Acts r s (State.probeClearRequest p0 p1 s).state :=
  acts_onStore fun st hst => by
    split
    · exact .refl
    · next n hn =>
      split
      · exact .refl
      · exact acts_clearActions hp s n p1

/-- Setting an alarm touches its record, and beyond the probes no more than a test of overheat does. -/
theorem State.setAlarm_fields (s : State) (n : ProbeId) (alarm : Bool) :
    (s.setAlarm n alarm).store = s.store ∧ (s.setAlarm n alarm).scanner = s.scanner
      ∧ (s.setAlarm n alarm).corrections = s.corrections ∧ (s.setAlarm n alarm).link = s.link
      ∧ (s.setAlarm n alarm).probes = s.probes.set n { s.probes.get n with alarm := alarm } := by
  unfold State.setAlarm
  split
  · next h =>
    refine ⟨rfl, rfl, rfl, rfl, ?_⟩
    cases n <;> (rw [← h]; rfl)
  · obtain ⟨store, corrections, scanner, probes, link, -⟩ :=
      (State.touches_testOverheat ((s.changeProbe n fun p => { p with alarm := alarm }).raiseIf alarm .probeAlarm)).fields
    rw [State.raiseIf_store] at store
    rw [State.raiseIf_scanner] at scanner
    rw [State.raiseIf_corrections] at corrections
    rw [State.raiseIf_link] at link
    rw [State.raiseIf_probes] at probes
    exact ⟨store, scanner, corrections, link, probes⟩

theorem acts_configureProbeRequest (hp : r.probes = true) (payload : List Byte) (s : State) :
    Acts r s (State.configureProbeRequest payload s).state :=
  acts_onStore fun st hst => by
    dsimp only
    split
    · exact .refl
    · next n _ =>
      split
      · exact .refl
      · split
        · exact .refl
        · next hv =>
          refine ((acts_setAlarm hp s n false).trans
            (acts_changeProbe hp _ n ⟨fun c hc => ?_, fun k hk => by cases hk⟩)).tail (.scanner _ _)
          cases hc
          exact .inr ⟨st, (s.setAlarm_fields n false).1.trans hst, Nat.not_lt.mp hv⟩

theorem acts_expireHold (hp : r.probes = true) (s : State) (n : ProbeId) : Acts r s (s.expireHold n) := by
  unfold State.expireHold
  split
  · exact acts_changeProbe hp s n (.of_same (Probe.relock_config _) (Probe.relock_last _))
  · exact .refl

theorem acts_expireScanInterval (s : State) : Acts r s s.expireScanInterval := by
  unfold State.expireScanInterval
  split
  · exact (ReflTransGen.single (.scanner s _)).trans (acts_takeStart _)
  · exact .refl

theorem acts_timeOutConversion (hp : r.probes = true) (s : State) : Acts r s s.timeOutConversion := by
  unfold State.timeOutConversion
  split
  · exact .refl
  · exact acts_endConversion s _ _ (acts_takeTimeout hp s _)

theorem acts_takeReply (hw : r.water = true) (hp : r.probes = true) (s : State) (passes : Bool) (address : Nat)
    (reading : Int) : Acts r s (s.takeReply passes address reading) := by
  unfold State.takeReply
  split
  · exact .refl
  · split
    · exact acts_endConversion s _ _ (acts_takeReading hw hp s _ (clampTempInt_le _))
    · exact .refl

/-! ### The Store Model's timers -/

theorem acts_expireLossInterval (hw : r.water = true) (s : State) : Acts r s s.expireLossInterval := by
  unfold State.expireLossInterval
  split
  · exact .refl
  · next st hst =>
    refine (ReflTransGen.single ?_).trans (acts_modelChanged _)
    exact .store s st _ hw hst rfl rfl fun hs => (hs.store hst).lossStep

theorem acts_expireHygieneMinute (hw : r.water = true) (s : State) : Acts r s s.expireHygieneMinute := by
  unfold State.expireHygieneMinute
  split
  · exact .refl
  · next st hst =>
    refine (ReflTransGen.single ?_).trans (acts_modelChanged _)
    exact .store s st _ hw hst rfl rfl fun hs => (hs.store hst).minuteUpdate

/-! ### Readings -/

theorem State.onStore_state {s : State} {f : Store → State → Reply} (h : ∀ st, (f st s).state = s) :
    (s.onStore f).state = s := by
  unfold State.onStore
  split
  · exact h _
  · rfl

/-- A READ leaves the state as it was, whatever its payload (R38, R86, R110, R159). -/
theorem State.readRequest_state (payload : List Byte) (s : State) : (s.readRequest payload).state = s := by
  unfold State.readRequest
  split
  · exact State.onStore_state fun _ => rfl
  · exact State.onStore_state fun _ => rfl
  · exact State.onStore_state fun _ => rfl
  · exact State.onStore_state fun _ => rfl
  · exact State.onStore_state fun _ => rfl
  · rfl

theorem State.profileRequest_state (p0 : Byte) (s : State) : (s.profileRequest p0).state = s :=
  State.onStore_state fun st => by split <;> rfl

/-! ### The Link Controller -/

theorem acts_framed (hl : r.link = true) (s : State) (f : Framing) : Acts r s (s.framed f) :=
  .single (.link s _ hl rfl)

theorem acts_send (hl : r.link = true) (s : State) (m : Message) (a : Answer) : Acts r s (s.send m a) :=
  .single (.link s _ hl rfl)

theorem acts_offer (hl : r.link = true) (s : State) (m : Message) : Acts r s (s.offer m) := by
  unfold State.offer
  split
  · exact .single (.link s _ hl rfl)
  · exact (Operation.raise s _).acts

theorem acts_raise_framed (hl : r.link = true) (s : State) (f : Framing) : Acts r s ((s.raise .linkError).framed f) :=
  (Operation.raise s _).acts.trans (acts_framed hl _ f)

theorem acts_framed_offer (hl : r.link = true) (s : State) (f : Framing) (m : Message) :
    Acts r s ((s.framed f).offer m) :=
  (acts_framed hl s f).trans (acts_offer hl _ m)

theorem acts_headerDone (hl : r.link = true) (s : State) (b0 b1 b2 check : Byte) :
    Acts r s (s.headerDone b0 b1 b2 check) := by
  unfold State.headerDone
  split
  · exact acts_raise_framed hl s _
  · dsimp only
    split
    · exact acts_framed_offer hl s _ _
    · split
      · exact acts_framed_offer hl s _ _
      · exact acts_framed hl s _

theorem acts_receive (hl : r.link = true) (s : State) (b : Byte) : Acts r s (s.receive b) := by
  unfold State.receive
  split
  · exact acts_framed hl s _
  · exact acts_headerDone hl s _ _ _ b
  · exact acts_framed hl s _
  · unfold State.payloadByte
    split
    · exact acts_framed hl s _
    · exact acts_framed_offer hl s _ _
  · exact acts_framed hl s _

theorem acts_receiveFault (hl : r.link = true) (s : State) : Acts r s s.receiveFault := by
  unfold State.receiveFault
  split
  · exact acts_framed hl s _
  · exact acts_raise_framed hl s _
  · exact acts_raise_framed hl s _
  · exact acts_raise_framed hl s _

theorem acts_expireStall (hl : r.link = true) (s : State) : Acts r s s.expireStall := by
  unfold State.expireStall
  split
  · unfold State.stallExpired
    split
    · exact acts_framed hl s _
    · exact acts_framed hl s _
    · exact acts_raise_framed hl s _
    · exact acts_raise_framed hl s _
  · exact .refl

theorem acts_resetRequest (hl : r.link = true) (p0 : Byte) (s : State) : Acts r s (State.resetRequest p0 s).state := by
  unfold State.resetRequest
  split
  · exact .single (.link s _ hl rfl)
  · split
    · exact .single (.link s _ hl rfl)
    · exact .refl

theorem Link.resetTakesEffect_rate (l : Link) : l.resetTakesEffect.rate = l.rate := by
  obtain ⟨framing, _, _, _, _, _⟩ := l
  cases framing <;> rfl

theorem acts_grantsResetTakesEffect (hw : r.water = true) (hl : r.link = true) (s : State) :
    Acts r s s.grantsResetTakesEffect := by
  unfold State.grantsResetTakesEffect
  dsimp only
  refine ((acts_settleCorrections hw s).trans (Operation.resetGrants _).acts).tail (.link _ _ hl ?_)
  exact Link.resetTakesEffect_rate _

/-! ### Every command -/

theorem acts_whenRunning {s : State} {f : State → State} (h : Acts r s (f s)) : Acts r s (s.whenRunning f) := by
  unfold State.whenRunning
  split
  · exact .refl
  · exact h

end

/-- The work of a request's owner is a row of acts of its reach. -/
theorem owner_acts {c : Instr} (h : c.isApart = false) (s : State) : Acts c.ownerReach s (c.owner s).state := by
  cases c with
  | unassignedKind k ch body => exact acts_owned body fun _ => .refl
  | identify ch p0 p1 => exact .refl
  | setMode ch p0 p1 => exact acts_setModeRequest rfl p0 s
  | setForecast ch p0 p1 => exact acts_setForecastRequest p0 p1 s
  | setMains ch p0 p1 => exact acts_setMainsRequest rfl p0 p1 s
  | setAmbient ch p0 p1 => exact acts_setAmbientRequest rfl p0 p1 s
  | draw ch p0 p1 => exact acts_drawRequest rfl p0 p1 s
  | keepalive ch p0 p1 => exact acts_keepaliveRequest ch p0 s
  | release ch p0 p1 => exact acts_releaseRequest ch p0 s
  | revoke ch p0 p1 => exact acts_revokeRequest p0 s
  | scan ch p0 p1 => exact acts_scanRequest s
  | relock ch p0 p1 => exact acts_probeClearRequest rfl p0 p1 s
  | clearMinMax ch p0 p1 => exact acts_probeClearRequest rfl p0 p1 s
  | clearAlarm ch p0 p1 => exact acts_probeClearRequest rfl p0 p1 s
  | reseed ch p0 p1 => exact acts_reseedRequest rfl rfl s
  | notices ch p0 p1 => cases h
  | noticeEnable ch p0 p1 => cases h
  | reset ch p0 p1 => exact acts_resetRequest rfl p0 s
  | profile ch p0 p1 => exact acts_same (s.profileRequest_state p0)
  | configureStore ch body => exact acts_owned body fun p => acts_configureStoreRequest rfl rfl p s
  | configurePort ch body => exact acts_owned body fun p => acts_configurePortRequest p s
  | configureProbe ch body => exact acts_owned body fun p => acts_configureProbeRequest rfl p s
  | requestCharge ch body => exact acts_owned body fun p => acts_requestChargeRequest ch p s
  | deposit ch body => exact acts_owned body fun p => acts_depositRequest rfl ch p s
  | readStrata ch body => exact acts_owned body fun p => acts_same (s.readRequest_state p)
  | readPorts ch body => exact acts_owned body fun p => acts_same (s.readRequest_state p)
  | readGrants ch body => exact acts_owned body fun p => acts_same (s.readRequest_state p)
  | readProbes ch body => exact acts_owned body fun p => acts_same (s.readRequest_state p)
  | readSummary ch body => exact acts_owned body fun p => acts_same (s.readRequest_state p)
  | powerOn | resetPinLow | resetPinRelease | rxByte | rxFramingFault | stallExpiry | resetGrantsTakesEffect
  | resetFullTakesEffect | lossIntervalExpiry | hygieneMinuteExpiry | livenessExpiry | minRunExpiry | solarIdleExpiry
  | hygieneTimeLimitExpiry | scanIntervalExpiry | conversionTimeout | probeReply | probeCorrection | lockoutHoldExpiry
  | rateStrapChange => exact .refl

/-- A request is a row of acts: its message offered, or its owner's work with the link's own around it. -/
theorem request_acts {c : Instr} (h : c.isApart = false) (m : Message) (s : State) :
    Acts c.reach s (s.request m c.owner) := by
  have owned (t : State) : Acts c.reach t (c.owner t).state :=
    Acts.widen (r := c.ownerReach) (r' := c.reach) id id (fun _ => rfl) (owner_acts h t)
  rcases s.request_cases m c.owner with same | offered | ⟨t, taking, handled⟩
  · rw [same]
  · rw [offered]
    exact acts_offer rfl s m
  · rw [handled]
    have taken : Acts c.reach s t := by
      obtain ⟨-, -, ⟨-, rfl⟩ | ⟨rest, -, rfl⟩⟩ := taking
      · exact .refl
      · exact .single (.link s _ rfl rfl)
    rcases t.handle_cases m c.owner with ⟨a, sent⟩ | ⟨a, sent⟩ <;> rw [sent]
    · exact taken.trans (acts_send rfl t m a)
    · exact (taken.trans (owned t)).trans (acts_send rfl _ m a)

/-- A command that is not apart is a row of acts of its reach. -/
theorem exec_acts {c : Instr} (h : c.isApart = false) {s t : State} (he : exec c s = .next t) : Acts c.reach s t := by
  cases hm : c.message with
  | some m =>
    rw [exec_request hm] at he
    cases he
    exact request_acts h m s
  | none =>
    cases c with
    | rxByte b => cases he; exact acts_whenRunning (acts_receive rfl s b)
    | rxFramingFault => cases he; exact acts_whenRunning (acts_receiveFault rfl s)
    | stallExpiry => cases he; exact acts_whenRunning (acts_expireStall rfl s)
    | resetGrantsTakesEffect =>
      cases he
      refine acts_whenRunning ?_
      split
      · exact acts_grantsResetTakesEffect rfl rfl s
      · exact .refl
    | lossIntervalExpiry => cases he; exact acts_whenRunning (acts_expireLossInterval rfl s)
    | hygieneMinuteExpiry => cases he; exact acts_whenRunning (acts_expireHygieneMinute rfl s)
    | livenessExpiry p => cases he; exact acts_whenRunning (Operation.retire s p .expired (by decide)).acts
    | minRunExpiry p => cases he; exact acts_whenRunning (Operation.expireMinRun s p).acts
    | solarIdleExpiry => cases he; exact acts_whenRunning (Operation.expireSolarIdle s).acts
    | hygieneTimeLimitExpiry => cases he; exact acts_whenRunning (Operation.expireHygieneLimit s).acts
    | scanIntervalExpiry => cases he; exact acts_whenRunning (acts_expireScanInterval s)
    | conversionTimeout => cases he; exact acts_whenRunning (acts_timeOutConversion rfl s)
    | probeReply passes address reading => cases he; exact acts_whenRunning (acts_takeReply rfl rfl s _ _ _)
    | probeCorrection => cases he; exact acts_whenRunning (acts_takeCorrection rfl s)
    | lockoutHoldExpiry n => cases he; exact acts_whenRunning (acts_expireHold rfl s n)
    | powerOn | resetPinLow | resetPinRelease | resetFullTakesEffect | rateStrapChange => cases h
    | _ => cases hm

end Sys2Proof.Machine
end

section
/-!
PROOF. What every step keeps, from what every act keeps: the Notice Register's line, the store, the grants, overheat and
HOLIDAY, and the hygiene run. With it the statements about what no command does: change the water (R21), the bit rate (R161)
or the flags (R181).
-/

namespace Sys2Proof.Machine

open Relation (ReflTransGen)

/-! ### The rule of steps -/

/-- What is to be shown of a predicate for every step to keep it. -/
structure Invariant (P : State → Prop) : Prop where
  act : ∀ {r : Reach} {s t : State}, Act r s t → P s → P t
  tick : ∀ s : State, P s → P s.tick
  frame : ∀ (s : State) (pins : Pins) (pending : List Instr) (choices : Nat), P s →
    P { s with pins := pins, pending := pending, choices := choices }
  notices : ∀ (s : State) (r : NoticeRegister), r.reevaluate = r → P s → P { s with notices := r }
  reset : ∀ (s : State) (l : Link), P { s.powerOnBlocks with link := l }

namespace Invariant

variable {P : State → Prop} (h : Invariant P)

include h

theorem acts {r : Reach} {s t : State} (a : Acts r s t) (hs : P s) : P t := a.keep h.act hs

theorem pins (s : State) (pins : Pins) (hs : P s) : P { s with pins := pins } := h.frame s pins s.pending s.choices hs

theorem link (s : State) (l : Link) (hr : l.rate = s.link.rate) (hs : P s) : P { s with link := l } :=
  h.act (r := { water := false, probes := false, link := true }) (.link s l rfl hr) hs

/-- A request of the two for the Notice Register. -/
theorem request {m : Message} {owner : State → Reply} {s : State}
    (ho : ∀ t : State, ∃ r : NoticeRegister, r.reevaluate = r ∧ (owner t).state = { t with notices := r }) (hs : P s) :
    P (s.request m owner) := by
  rcases s.request_cases m owner with same | offered | ⟨t, taking, handled⟩
  · rwa [same]
  · rw [offered]
    exact h.acts (acts_offer (r := ⟨false, false, true⟩) rfl s m) hs
  · rw [handled]
    have taken : P t := by
      obtain ⟨-, -, ⟨-, rfl⟩ | ⟨rest, -, rfl⟩⟩ := taking
      · exact hs
      · exact h.link s _ rfl hs
    rcases t.handle_cases m owner with ⟨a, sent⟩ | ⟨a, sent⟩ <;> rw [sent]
    · exact h.link t _ rfl taken
    · obtain ⟨r, hr, same⟩ := ho t
      rw [same]
      exact h.link _ _ rfl (h.notices t r hr taken)

/-- Every command keeps the invariant. -/
theorem exec {c : Instr} {s t : State} (hs : P s) (he : Machine.exec c s = .next t) : P t := by
  cases hc : c.isApart with
  | false => exact h.acts (exec_acts hc he) hs
  | true =>
    cases c with
    | powerOn =>
      cases he
      exact h.reset s _
    | resetPinLow =>
      cases he
      exact h.pins _ _ (h.reset s _)
    | resetPinRelease =>
      cases he
      split
      · exact h.pins _ { s.pins with resetLow := false } (h.reset s
          { s.link.powerOn with rate := .ofStraps s.pins.rate1 s.pins.rate0 })
      · exact hs
    | resetFullTakesEffect =>
      cases he
      unfold State.whenRunning
      split
      · exact hs
      · dsimp only
        split
        · exact h.reset s _
        · exact hs
    | rateStrapChange rate1 rate0 =>
      cases he
      exact h.pins s _ hs
    | notices ch p0 p1 =>
      cases he
      exact h.request (fun t => ⟨t.notices.clear (mask16 p0 p1), rfl, rfl⟩) hs
    | noticeEnable ch p0 p1 =>
      cases he
      exact h.request (fun t => ⟨t.notices.enable (mask16 p0 p1), rfl, rfl⟩) hs
    | _ => cases hc

/-- Every step keeps the invariant. -/
theorem step {s t : State} (hs : P s) (he : Machine.step s = .next t) : P t := by
  unfold Machine.step at he
  split at he
  · unfold State.idle at he
    split at he
    · cases he
      exact hs
    · split at he
      · cases he
        exact h.tick s hs
      · exact h.exec hs he
      · exact h.exec (h.frame s s.pins s.pending (s.choices + 1) hs) he
  · next c rest _ => exact h.exec (h.frame s s.pins rest s.choices hs) he

end Invariant

/-! ### The Notice Register -/

/-- A bit stands in a conjunction of two words of a width exactly when the conjunction is not 0. -/
theorem BitVec.and_ne_zero_iff {w : Nat} {a b : BitVec w} :
    a &&& b ≠ 0 ↔ ∃ i, i < w ∧ a.getLsbD i = true ∧ b.getLsbD i = true := by
  rw [← not_iff_not, not_not]
  constructor
  · rintro hz ⟨i, -, ha, hb⟩
    have bit : (a &&& b).getLsbD i = true := by rw [BitVec.getLsbD_and, ha, hb, Bool.and_self]
    rw [hz] at bit
    simp at bit
  · intro hn
    refine BitVec.eq_of_getLsbD_eq fun i hi => ?_
    rw [BitVec.getLsbD_and]
    cases ha : a.getLsbD i
    · simp
    · cases hb : b.getLsbD i
      · simp
      · exact absurd ⟨i, hi, ha, hb⟩ hn

/-- ATTN stands as the flags and the mask make it exactly when re-evaluating it changes nothing (R181). -/
theorem State.attnSound_iff {s : State} : s.AttnSound ↔ s.notices.reevaluate = s.notices := by
  have level : s.notices.reevaluate.attnLow = true
      ↔ ∃ i, i < 16 ∧ s.notices.flags.getLsbD i = true ∧ s.notices.mask.getLsbD i = true :=
    (NoticeRegister.reevaluate_attnLow s.notices).trans BitVec.and_ne_zero_iff
  rw [State.AttnSound, ← level]
  constructor
  · intro h
    generalize s.notices = r at h ⊢
    obtain ⟨flags, mask, attn⟩ := r
    simp only [NoticeRegister.reevaluate, NoticeRegister.mk.injEq, true_and]
    exact (Bool.eq_iff_iff.mpr h).symm
  · intro h
    rw [h]

/-- The Notice Register's line stands re-evaluated. -/
def State.Evaluated (s : State) : Prop := s.notices.reevaluate = s.notices

theorem State.Evaluated.raise {s : State} (n : Notice) : (s.raise n).Evaluated := rfl

theorem State.Evaluated.raiseIf {s : State} (h : s.Evaluated) (c : Bool) (n : Notice) : (s.raiseIf c n).Evaluated := by
  cases c
  · exact h
  · exact .raise n

theorem State.Evaluated.retireHoldingSolar {s : State} (h : s.Evaluated) (p : PortId) (r : Reason) :
    (s.retireHoldingSolar p r).Evaluated := by
  unfold State.retireHoldingSolar
  split
  · exact h
  · next g _ =>
    have ended : State.Evaluated { s with arbiter := s.arbiter.endGrant p g.handle r } := h
    have raised := (ended.raiseIf (!r.asPlanned) .grantEnded).raiseIf (decide (r = .abandoned)) .resumeDropped
    dsimp only
    split
    · unfold State.hygieneRunFailed
      split
      · exact .raise _
      · exact raised
    · exact raised

theorem State.Evaluated.retireAll (r : Reason) : ∀ (ps : List PortId) {s : State}, s.Evaluated → (s.retireAll r ps).Evaluated
  | [], _, h => h
  | p :: ps, _, h => State.Evaluated.retireAll r ps (h.retireHoldingSolar p r)

theorem State.Evaluated.move {s t : State} (m : Move s t) (h : s.Evaluated) : t.Evaluated := by
  cases m with
  | raise n => exact .raise n
  | retire p r => exact h.retireHoldingSolar p r
  | complete _ => exact State.Evaluated.retireAll _ _ (s := { s with hygiene := { state := .clear, limit := none } }) h
  | chosen | arbiter | retune | hold | due | clean => exact h

theorem State.Evaluated.enterHoliday {s : State} (h : s.Evaluated) (st : Store) : (s.enterHoliday st).Evaluated :=
  State.Evaluated.retireAll .mode _ (s := { s with store := some { st with holiday := true } }) h

theorem State.Evaluated.invariant : Invariant State.Evaluated where
  act := by
    intro r s t a h
    cases a with
    | operation o => exact o.moves.keep State.Evaluated.move h
    | enterHoliday st _ _ => exact h.enterHoliday st
    | link | scanner | corrections | probes | store | running | start | port | grant | hygieneGrant => exact h
  tick _ h := h
  frame _ _ _ _ h := h
  notices _ _ hr _ := hr
  reset _ _ := by
    have initial : NoticeRegister.initial.reevaluate = NoticeRegister.initial := by decide
    exact initial

/-- Settles O52: each act leaves the line as it was, with the flags, or re-evaluates it. -/
theorem everyStepKeepsAttn : Obligations.EveryStepKeepsAttn := by
  intro s t hs he
  rw [State.attnSound_iff] at hs ⊢
  exact State.Evaluated.invariant.step hs he

/-! ### The store -/

theorem State.StoreSound.move {s t : State} (m : Move s t) (h : s.StoreSound) : t.StoreSound := by
  have config : ∀ p, (t.port p).config = (s.port p).config := by
    intro p
    cases m with
    | arbiter a _ hp => exact congrArg (fun ps => (PerPort.get ps p).config) hp
    | retire q r => exact s.config_retireHoldingSolar q r p
    | complete _ => exact State.config_retireAll _ p _ _
    | raise | chosen | retune | hold | due | clean => rfl
  obtain ⟨store, -, -, probes, -⟩ := m.touches.fields
  intro st hst
  obtain ⟨sound, entries, heights, readings⟩ := h st (store ▸ hst)
  exact ⟨sound, fun p c hc => entries p c (config p ▸ hc), fun n c hc => heights n c (probes ▸ hc),
    fun n r hr => readings n r (probes ▸ hr)⟩

theorem State.StoreSound.enterHoliday {s : State} {st : Store} (h : s.StoreSound) (hst : s.store = some st) :
    (s.enterHoliday st).StoreSound := by
  have entered : State.StoreSound { s with store := some { st with holiday := true } } := by
    intro st' hst'
    cases hst'
    exact h st hst
  exact (moves_retireAll _ (by decide) _).keep State.StoreSound.move entered

theorem State.StoreSound.invariant : Invariant State.StoreSound where
  act := by
    intro r s t a h
    cases a with
    | operation o => exact o.moves.keep State.StoreSound.move h
    | link | scanner | corrections | grant | hygieneGrant => exact h
    | probes ps _ hf =>
      intro st hst
      obtain ⟨sound, entries, heights, readings⟩ := h st hst
      refine ⟨sound, entries, fun n c hc => ?_, fun n k hk => ?_⟩
      · rcases (hf n).height c hc with old | ⟨st', hst', hle⟩
        · exact heights n c old
        · rw [hst] at hst'
          cases hst'
          exact hle
      · rcases (hf n).reading k hk with old | hle
        · exact readings n k old
        · exact hle
    | store st st' _ hst hcfg _ hs =>
      intro st'' hst''
      cases hst''
      obtain ⟨-, entries, heights, readings⟩ := h st hst
      exact ⟨hs h, fun p c hc => hcfg ▸ entries p c hc, fun n c hc => hcfg ▸ heights n c hc, readings⟩
    | running st _ hst =>
      intro st' hst'
      cases hst'
      exact h st hst
    | enterHoliday st _ hst => exact h.enterHoliday hst
    | start cfg holiday sc _ _ hc =>
      intro st hst
      cases hst
      have noPort : ∀ p, (Arbiter.initial.ports.get p).config = none := fun p => by cases p <;> rfl
      have noProbe : ∀ n, (PerProbe.replicate Probe.initial).get n = Probe.initial := fun n => PerProbe.get_replicate _ n
      refine ⟨Store.start_sound hc holiday, fun p c hp => ?_, fun n c hn => ?_, fun n k hn => ?_⟩
      · exact nomatch (noPort p).symm.trans hp
      · exact nomatch (congrArg Probe.config (noProbe n)).symm.trans hn
      · exact nomatch (congrArg Probe.last (noProbe n)).symm.trans hn
    | port p q _ hc =>
      intro st hst
      obtain ⟨sound, entries, heights, readings⟩ := h st hst
      refine ⟨sound, fun k c hk => ?_, heights, readings⟩
      have port : (s.arbiter.ports.set p q).get k = if k = p then q else s.arbiter.ports.get k := PerPort.get_set _ _ _ _
      simp only [State.port, port] at hk
      split at hk
      · rcases hc with same | ⟨-, new⟩
        · exact entries p c (same ▸ hk)
        · obtain ⟨st', hst', hin⟩ := new c hk
          rw [hst] at hst'
          cases hst'
          exact hin
      · exact entries k c hk
  tick s h := by
    intro st hst
    obtain ⟨st', hst', rfl⟩ := Option.map_eq_some_iff.mp hst
    obtain ⟨sound, entries, heights, readings⟩ := h st' hst'
    have probe : ∀ n, s.tick.probes.get n = (s.probes.get n).pass := fun n => PerProbe.get_map _ _ n
    exact ⟨sound, entries, fun n c hc => heights n c (by rw [probe] at hc; exact hc),
      fun n k hk => readings n k (by rw [probe] at hk; exact hk)⟩
  frame _ _ _ _ h := h
  notices _ _ _ h := h
  reset _ _ := nofun

/-- Settles O53: an operation on the list leaves it normal with its volume and its figures in range, and no other act
touches what the store rests on but within V. -/
theorem everyStepKeepsTheStore : Obligations.EveryStepKeepsTheStore :=
  fun _ _ hs he => State.StoreSound.invariant.step hs he

/-! ### The grants -/

/-- What GrantsSound rests on at one port. -/
theorem State.GrantSound.of_fields {s t : State} {p : PortId} {g : Grant} (h : s.GrantSound p g)
    (store : s.store.isSome → t.store.isSome) (config : (t.port p).config = (s.port p).config)
    (lastEnd : (t.port p).lastEnd = (s.port p).lastEnd) : t.GrantSound p g := by
  obtain ⟨some_, admitted, handle, fresh, rest⟩ := h
  exact ⟨store some_, by rwa [config], handle, by rwa [lastEnd], rest⟩

theorem State.GrantSound.retuned {s : State} {p : PortId} {g k : Grant} (h : s.GrantSound p g) (hr : g.Retuned k) :
    s.GrantSound p k := by
  obtain ⟨store, ⟨c, hc, admits⟩, handle, fresh, delivered, supply, budget⟩ := h
  refine ⟨store, ⟨c, hc, ?_⟩, hr.handle ▸ handle, hr.handle ▸ fresh, ?_, hr.supply ▸ supply, fun m hm => ?_⟩
  · cases hcls : g.cls with
    | mustTake held => rw [hr.mustTake held hcls, ← hcls]; exact admits
    | hygiene => rw [hr.hygiene hcls, ← hcls]; exact admits
    | normal n =>
      obtain ⟨m, hm, -⟩ := hr.normal n hcls
      rw [hcls] at admits
      rw [hm]
      cases hsrc : c.source <;> rw [hsrc] at admits <;> exact admits
  · exact hr.delivered.elim (fun e => e ▸ delivered) id
  · cases hcls : g.cls with
    | mustTake held => rw [hr.mustTake held hcls] at hm; cases hm
    | hygiene => rw [hr.hygiene hcls] at hm; cases hm
    | normal n =>
      obtain ⟨m', hm', le, left⟩ := hr.normal n hcls
      rw [hm'] at hm
      cases hm
      obtain ⟨hlt, hmax⟩ := budget n hcls
      exact ⟨left hlt, le.trans hmax⟩

theorem State.GrantsSound.retuned {s : State} (h : s.GrantsSound) {gs : PerPort (Option Grant)}
    (hr : Retuned s.arbiter.grants gs) : State.GrantsSound { s with arbiter := { s.arbiter with grants := gs } } := by
  intro p k hk
  have rel := hr p
  rw [show gs.get p = some k from hk] at rel
  cases hg : s.arbiter.grants.get p with
  | none => rw [hg] at rel; cases rel
  | some g =>
    rw [hg] at rel
    cases rel with
    | some hgk => exact (h p g hg).retuned hgk

theorem State.GrantsSound.retireHoldingSolar {s : State} (h : s.GrantsSound) (p : PortId) (r : Reason) :
    (s.retireHoldingSolar p r).GrantsSound := by
  intro q k hk
  rw [State.grant_retireHoldingSolar] at hk
  split at hk
  · cases hk
  · next hqp =>
    obtain ⟨store, -⟩ := (s.touches_retireHoldingSolar p r).fields
    refine (h q k hk).of_fields (fun hs => store ▸ hs) (s.config_retireHoldingSolar p r q) ?_
    cases hg : s.grant p with
    | none => rw [State.retireHoldingSolar_none hg]
    | some g => rw [State.port_retireHoldingSolar hg, if_neg hqp]

theorem State.GrantsSound.retireAll (r : Reason) : ∀ (ps : List PortId) {s : State}, s.GrantsSound →
    (s.retireAll r ps).GrantsSound
  | [], _, h => h
  | p :: ps, _, h => State.GrantsSound.retireAll r ps (h.retireHoldingSolar p r)

/-- A grant as a hold or a release of the MUST_TAKE grants leaves it. -/
def Grant.heldAs (held : Bool) (g : Grant) : Grant :=
  match g.cls with
  | .mustTake _ => { g with cls := .mustTake held }
  | .normal _ => g
  | .hygiene => g

theorem Grant.heldAs_cls (held : Bool) (g : Grant) : (g.heldAs held).cls =
    match g.cls with | .mustTake _ => .mustTake held | .normal n => .normal n | .hygiene => .hygiene := by
  unfold Grant.heldAs
  split <;> simp_all

theorem Grant.heldAs_fields (held : Bool) (g : Grant) : (g.heldAs held).handle = g.handle
    ∧ (g.heldAs held).delivered = g.delivered ∧ (g.heldAs held).declaredSupply = g.declaredSupply := by
  unfold Grant.heldAs
  split <;> exact ⟨rfl, rfl, rfl⟩

theorem Arbiter.grant_holdMustTake (a : Arbiter) (held : Bool) (p : PortId) :
    (a.holdMustTake held).grants.get p = (a.grants.get p).map (Grant.heldAs held) := PerPort.get_map _ _ _

theorem State.GrantSound.heldAs {s : State} {p : PortId} {g : Grant} (h : s.GrantSound p g) (held : Bool) :
    s.GrantSound p (g.heldAs held) := by
  obtain ⟨store, ⟨c, hc, admits⟩, handle, fresh, delivered, supply, budget⟩ := h
  obtain ⟨eh, ed, es⟩ := g.heldAs_fields held
  have cls := g.heldAs_cls held
  refine ⟨store, ⟨c, hc, ?_⟩, eh ▸ handle, eh ▸ fresh, ed ▸ delivered, es ▸ supply, fun n hn => ?_⟩
  · rw [cls]
    revert admits
    cases c.source <;> cases g.cls <;> exact id
  · rw [ed]
    refine budget n ?_
    rw [cls] at hn
    revert hn
    cases g.cls with
    | mustTake _ => exact nofun
    | normal _ => exact id
    | hygiene => exact nofun

theorem State.GrantsSound.move {s t : State} (m : Move s t) (h : s.GrantsSound) : t.GrantsSound := by
  cases m with
  | raise | chosen | due | clean => exact h
  | arbiter a hg hp =>
    intro p g hgp
    have port : ∀ q, a.ports.get q = s.arbiter.ports.get q := fun q => by rw [hp]
    refine (h p g ?_).of_fields id (congrArg Port.config (port p)) (congrArg Port.lastEnd (port p))
    rw [State.grant, Arbiter.grant, ← hg]
    exact hgp
  | retune gs hr => exact h.retuned hr
  | retire p r => exact h.retireHoldingSolar p r
  | hold held =>
    intro p k hk
    have mapped : (s.arbiter.grants.get p).map (Grant.heldAs held) = some k :=
      (Arbiter.grant_holdMustTake s.arbiter held p).symm.trans hk
    obtain ⟨g, hg, rfl⟩ := Option.map_eq_some_iff.mp mapped
    exact (h p g hg).heldAs held
  | complete => exact State.GrantsSound.retireAll _ _ (s := { s with hygiene := { state := .clear, limit := none } }) h

/-- The handle of a port's next grant names the port, and is not its last end's (R81, R89). -/
theorem nextHandle_spec (p : PortId) (e : Option LastEnd) : (nextHandle p e).toNat % 16 = p.number
    ∧ ∀ l, e = some l → l.handle ≠ nextHandle p e := by
  have low (generation : BitVec 4) : (generation ++ BitVec.ofNat 4 p.number).toNat = 16 * generation.toNat + p.number := by
    rw [BitVec.toNat_append, Nat.shiftLeft_eq]
    have small : (BitVec.ofNat 4 p.number).toNat = p.number := by cases p <;> rfl
    have lt : p.number < 2 ^ 4 := by cases p <;> decide
    rw [small, Nat.mul_comm, ← Nat.two_pow_add_eq_or_of_lt lt]
  have lt : p.number < 16 := by cases p <;> decide
  refine ⟨?_, fun l hl hh => ?_⟩
  · unfold nextHandle
    rw [low]
    omega
  · subst hl
    -- the generation is one on, and so not the same
    have value : l.handle.toNat = 16 * (l.handle.extractLsb' 4 4 + 1).toNat + p.number := by
      rw [← low]
      exact congrArg BitVec.toNat hh
    have bound := l.handle.isLt
    rw [BitVec.toNat_add, BitVec.extractLsb'_toNat, Nat.shiftRight_eq_div_pow] at value
    have one : (1 : BitVec 4).toNat = 1 := rfl
    rw [one] at value
    omega

theorem State.GrantsSound.granted {s : State} (h : s.GrantsSound) {p : PortId} {c : PortConfig} {st : Store}
    {cls : GrantClass} {supply : Nat} (ha : Admitted s p c st cls supply) :
    (s.grantCharge p c cls supply).state.GrantsSound := by
  intro q k hk
  have grant : (s.arbiter.grants.set p (some
      { handle := nextHandle p (s.port p).lastEnd, cls := cls, delivered := 0, declaredSupply := supply
        liveness := c.liveness * Config.second })).get q = some k := hk
  rw [PerPort.get_set] at grant
  split at grant
  · next hq =>
    subst hq
    cases grant
    obtain ⟨names, fresh⟩ := nextHandle_spec q (s.port q).lastEnd
    exact ⟨Option.isSome_of_eq_some ha.store, ⟨c, ha.config, ha.admits⟩, names, fresh, Nat.zero_le _, ha.supply,
      fun n hn => ⟨(ha.normal n hn).2.2.1, (ha.normal n hn).2.2.2.1⟩⟩
  · exact h q k grant

theorem Timer.pass_eq_none {t : Timer} : Timer.pass t = none ↔ t = none := Option.map_eq_none_iff

/-- A crystal period leaves every grant but its timers. -/
theorem Grant.kept_pass (g : Grant) : g.Kept g.pass := by
  by_cases hn : ∃ n, g.cls = .normal n
  · obtain ⟨n, hn⟩ := hn
    have passed : g.pass = { g with liveness := g.liveness - 1, cls := .normal { n with minRun := Timer.pass n.minRun } } :=
      Grant.changeNormal_of_normal (g := { g with liveness := g.liveness - 1 }) hn _
    rw [passed]
    refine
      { handle := rfl, supply := rfl, delivered := .inl rfl
        mustTake := fun _ h => by rw [hn] at h; cases h
        hygiene := fun h => by rw [hn] at h; cases h
        normal := fun m hm => ?_, standing := fun m k hm hk => ?_ }
    · rw [hn] at hm
      cases hm
      exact ⟨_, rfl, Nat.le_refl _, id⟩
    · rw [hn] at hm
      cases hm
      cases hk
      exact ⟨rfl, rfl, Timer.pass_eq_none⟩
  · have other : ∀ n, g.cls ≠ .normal n := fun n h => hn ⟨n, h⟩
    have passed : g.pass = { g with liveness := g.liveness - 1 } :=
      Grant.changeNormal_of_other (g := { g with liveness := g.liveness - 1 }) other _
    rw [passed]
    exact .of_cls rfl rfl rfl (.inl rfl) fun n h => absurd h (other n)

theorem keptGrants_pass (gs : PerPort (Option Grant)) : KeptGrants gs (gs.map (Option.map Grant.pass)) := by
  intro p
  rw [PerPort.get_map]
  exact Option.rel_map _ fun g _ => g.kept_pass

theorem State.GrantsSound.invariant : Invariant State.GrantsSound where
  act := by
    intro r s t a h
    cases a with
    | operation o => exact o.moves.keep State.GrantsSound.move h
    | link | scanner | corrections | probes => exact h
    | store st st' _ hst => exact fun p g hg => (h p g hg).of_fields (fun _ => rfl) rfl rfl
    | running st _ hst => exact fun p g hg => (h p g hg).of_fields (fun _ => rfl) rfl rfl
    | enterHoliday st _ hst =>
      refine State.GrantsSound.retireAll .mode _ (s := { s with store := some { st with holiday := true } }) ?_
      exact fun p g hg => (h p g hg).of_fields (fun _ => rfl) rfl rfl
    | start => exact fun p g hg => nomatch (PerPort.get_replicate none p).symm.trans hg
    | port p q hl hc =>
      intro k g hg
      have port : State.port { s with arbiter := { s.arbiter with ports := s.arbiter.ports.set p q } } k
          = if k = p then q else s.port k := PerPort.get_set _ _ _ _
      refine (h k g hg).of_fields id ?_ ?_ <;> rw [port] <;> split
      · next hk =>
        subst hk
        rcases hc with same | ⟨free, -⟩
        · exact same
        · rw [show s.grant k = some g from hg] at free
          cases free
      · rfl
      · next hk => rw [hk, hl]
      · rfl
    | grant p c st cls supply ha => exact h.granted ha
    | hygieneGrant p c st supply limit ha =>
      have admitted : Admitted { s with hygiene := { state := .inProgress, limit := some limit } } p c st .hygiene supply :=
        { ha with }
      exact State.GrantsSound.granted (s := { s with hygiene := { state := .inProgress, limit := some limit } }) h admitted
  tick s h := by
    intro p g hg
    have sound := h.retuned (keptGrants_pass s.arbiter.grants).retuned p g hg
    exact sound.of_fields (fun hs => by rw [State.tick_store, Option.isSome_map]; exact hs) rfl rfl
  frame _ _ _ _ h := h
  notices _ _ _ h := h
  reset _ _ := fun p g hg => nomatch (PerPort.get_replicate none p).symm.trans hg

/-- Settles O54: a grant is made as the gates leave it, and no other act touches what it rests on. -/
theorem everyStepKeepsTheGrants : Obligations.EveryStepKeepsTheGrants :=
  fun _ _ hs he => State.GrantsSound.invariant.step hs he

end Sys2Proof.Machine
end

section
/-!
PROOF. Every step keeps overheat and HOLIDAY in agreement with the grants, and the hygiene run with its one grant; and what
no command but a few may do: change the water (R21, R177), the bit rate (R161) or the flags and the mask (R181).
-/

namespace Sys2Proof.Machine

open Relation (ReflTransGen)

/-! ### Overheat -/

/-- A retuned grant is HELD exactly when it was. -/
theorem Grant.Retuned.held_iff {g k : Grant} (h : g.Retuned k) (held : Bool) :
    k.cls = .mustTake held ↔ g.cls = .mustTake held := by
  refine ⟨fun hk => ?_, h.mustTake held⟩
  cases hcls : g.cls with
  | mustTake b =>
    rw [h.mustTake b hcls] at hk
    exact hk
  | normal n =>
    obtain ⟨m, hm, -⟩ := h.normal n hcls
    rw [hm] at hk
    cases hk
  | hygiene =>
    rw [h.hygiene hcls] at hk
    cases hk

/-- A retuned grant is NORMAL only where it was. -/
theorem Grant.Retuned.normal_of {g k : Grant} (h : g.Retuned k) {m : NormalGrant} (hk : k.cls = .normal m) :
    ∃ n, g.cls = .normal n := by
  cases hcls : g.cls with
  | mustTake b =>
    rw [h.mustTake b hcls] at hk
    cases hk
  | normal n => exact ⟨n, rfl⟩
  | hygiene =>
    rw [h.hygiene hcls] at hk
    cases hk

/-- A retuned grant is a HYGIENE one exactly when it was. -/
theorem Grant.Retuned.hygiene_iff {g k : Grant} (h : g.Retuned k) : k.cls = .hygiene ↔ g.cls = .hygiene := by
  refine ⟨fun hk => ?_, h.hygiene⟩
  cases hcls : g.cls with
  | mustTake b =>
    rw [h.mustTake b hcls] at hk
    cases hk
  | normal n =>
    obtain ⟨m, hm, -⟩ := h.normal n hcls
    rw [hm] at hk
    cases hk
  | hygiene => rfl

/-- The grant a retuned table holds came of one at its port. -/
theorem Retuned.grant {gs ks : PerPort (Option Grant)} (h : Retuned gs ks) {p : PortId} {k : Grant}
    (hk : ks.get p = some k) : ∃ g, gs.get p = some g ∧ g.Retuned k := by
  have rel := h p
  rw [hk] at rel
  cases hg : gs.get p with
  | none => rw [hg] at rel; cases rel
  | some g =>
    rw [hg] at rel
    cases rel with
    | some hgk => exact ⟨g, rfl, hgk⟩

theorem Retuned.grant' {gs ks : PerPort (Option Grant)} (h : Retuned gs ks) {p : PortId} {g : Grant}
    (hg : gs.get p = some g) : ∃ k, ks.get p = some k ∧ g.Retuned k := by
  have rel := h p
  rw [hg] at rel
  cases hk : ks.get p with
  | none => rw [hk] at rel; cases rel
  | some k =>
    rw [hk] at rel
    cases rel with
    | some hgk => exact ⟨k, rfl, hgk⟩

theorem State.OverheatSound.retireHoldingSolar {s : State} (h : s.OverheatSound) (p : PortId) (r : Reason) :
    (s.retireHoldingSolar p r).OverheatSound := by
  intro q g hg
  rw [State.grant_retireHoldingSolar] at hg
  split at hg
  · cases hg
  · rw [(s.keepsFigures_retireHoldingSolar p r).overheat]
    exact h q g hg

theorem State.OverheatSound.retireAll (r : Reason) : ∀ (ps : List PortId) {s : State}, s.OverheatSound →
    (s.retireAll r ps).OverheatSound
  | [], _, h => h
  | p :: ps, _, h => State.OverheatSound.retireAll r ps (h.retireHoldingSolar p r)

theorem State.OverheatSound.retuned {s : State} (h : s.OverheatSound) {gs : PerPort (Option Grant)}
    (hr : Retuned s.arbiter.grants gs) : State.OverheatSound { s with arbiter := { s.arbiter with grants := gs } } := by
  intro p k hk
  obtain ⟨g, hg, hgk⟩ := hr.grant hk
  obtain ⟨set, clear⟩ := h p g hg
  exact ⟨fun ho => (hgk.held_iff true).mpr (set ho), fun ho => mt (hgk.held_iff true).mp (clear ho)⟩

theorem State.OverheatSound.move {s t : State} (m : Move s t) (h : s.OverheatSound) : t.OverheatSound := by
  cases m with
  | raise | chosen | due | clean => exact h
  | arbiter a hg _ ho =>
    intro p g hgp
    have same : s.grant p = some g := by
      rw [State.grant, Arbiter.grant, ← hg]
      exact hgp
    have sound := h p g same
    rw [← ho] at sound
    exact sound
  | retune gs hr => exact h.retuned hr
  | retire p r => exact h.retireHoldingSolar p r
  | hold held hm =>
    intro p k hk
    have mapped : (s.arbiter.grants.get p).map (Grant.heldAs held) = some k :=
      (Arbiter.grant_holdMustTake s.arbiter held p).symm.trans hk
    obtain ⟨g, hg, rfl⟩ := Option.map_eq_some_iff.mp mapped
    have cls := g.heldAs_cls held
    refine ⟨fun ho => ?_, fun ho => ?_⟩
    · have hheld : held = true := ho
      subst hheld
      obtain ⟨b, hb⟩ := hm rfl p g hg
      rw [cls, hb]
    · have hheld : held = false := ho
      subst hheld
      rw [cls]
      cases g.cls <;> exact nofun
  | complete =>
    exact State.OverheatSound.retireAll _ _ (s := { s with hygiene := { state := .clear, limit := none } }) h

/-- The grant table with a new grant. -/
theorem State.grant_grantCharge {s : State} {p : PortId} {c : PortConfig} {cls : GrantClass} {supply : Nat} {q : PortId}
    {g : Grant} (h : (s.grantCharge p c cls supply).state.grant q = some g) :
    q = p ∧ g.cls = cls ∨ q ≠ p ∧ s.grant q = some g := by
  have set := PerPort.get_set s.arbiter.grants p q (some
    { handle := nextHandle p (s.port p).lastEnd, cls := cls, delivered := 0, declaredSupply := supply
      liveness := c.liveness * Config.second })
  have hg := set.symm.trans h
  split at hg
  · next hq =>
    cases hg
    exact .inl ⟨hq, rfl⟩
  · next hq => exact .inr ⟨hq, hg⟩

theorem State.grant_grantCharge_self (s : State) (p : PortId) (c : PortConfig) (cls : GrantClass) (supply : Nat) :
    ∃ g, (s.grantCharge p c cls supply).state.grant p = some g ∧ g.cls = cls :=
  ⟨_, PerPort.get_set_same _ _ _, rfl⟩

theorem State.OverheatSound.invariant : Invariant State.OverheatSound where
  act := by
    intro r s t a h
    cases a with
    | operation o => exact o.moves.keep State.OverheatSound.move h
    | link | scanner | corrections | probes | store | running | port => exact h
    | enterHoliday st _ _ =>
      exact State.OverheatSound.retireAll .mode _ (s := { s with store := some { st with holiday := true } }) h
    | start => exact fun p g hg => nomatch (PerPort.get_replicate none p).symm.trans hg
    | grant p c st cls supply ha hh =>
      intro q g hg
      rcases State.grant_grantCharge hg with ⟨-, hcls⟩ | ⟨-, old⟩
      · have overheat : (s.grantCharge p c cls supply).state.arbiter.overheat = s.arbiter.overheat := rfl
        rw [hcls, overheat]
        cases cls with
        | mustTake held =>
          have hheld := ha.mustTake held rfl
          rw [hheld]
          refine ⟨fun ho => by rw [ho], fun ho hm => ?_⟩
          rw [GrantClass.mustTake.inj hm] at ho
          cases ho
        | normal n =>
          refine ⟨fun ho => ?_, fun _ => nofun⟩
          rw [(ha.normal n rfl).1] at ho
          cases ho
        | hygiene => exact absurd rfl hh
      · exact h q g old
    | hygieneGrant p c st supply limit _ ho =>
      intro q g hg
      rcases State.grant_grantCharge hg with ⟨-, hcls⟩ | ⟨-, old⟩
      · rw [hcls]
        refine ⟨fun hset => ?_, fun _ => nofun⟩
        rw [show s.arbiter.overheat = true from hset] at ho
        cases ho
      · exact h q g old
  tick s h := h.retuned (keptGrants_pass s.arbiter.grants).retuned
  frame _ _ _ _ h := h
  notices _ _ _ h := h
  reset _ _ := fun p g hg => nomatch (PerPort.get_replicate none p).symm.trans hg

/-! ### HOLIDAY -/

theorem State.mode_congr {s t : State} (h : t.store = s.store) : t.mode = s.mode := by rw [State.mode, h, State.mode]

theorem State.HolidaySound.retireHoldingSolar {s : State} (h : s.HolidaySound) (p : PortId) (r : Reason) :
    (s.retireHoldingSolar p r).HolidaySound := by
  intro hm
  have figures := s.keepsFigures_retireHoldingSolar p r
  obtain ⟨emergency, grants⟩ := h (State.mode_congr figures.store ▸ hm)
  refine ⟨figures.comfortEmergency.trans emergency, fun q g n hg => ?_⟩
  rw [State.grant_retireHoldingSolar] at hg
  split at hg
  · cases hg
  · exact grants q g n hg

theorem State.HolidaySound.retireAll (r : Reason) : ∀ (ps : List PortId) {s : State}, s.HolidaySound →
    (s.retireAll r ps).HolidaySound
  | [], _, h => h
  | p :: ps, _, h => State.HolidaySound.retireAll r ps (h.retireHoldingSolar p r)

theorem State.HolidaySound.retuned {s : State} (h : s.HolidaySound) {gs : PerPort (Option Grant)}
    (hr : Retuned s.arbiter.grants gs) : State.HolidaySound { s with arbiter := { s.arbiter with grants := gs } } := by
  intro hm
  obtain ⟨emergency, grants⟩ := h hm
  refine ⟨emergency, fun p k m hk hcls => ?_⟩
  obtain ⟨g, hg, hgk⟩ := hr.grant hk
  obtain ⟨n, hn⟩ := hgk.normal_of hcls
  exact grants p g n hg hn

theorem State.HolidaySound.move {s t : State} (m : Move s t) (h : s.HolidaySound) : t.HolidaySound := by
  cases m with
  | raise | chosen | due | clean => exact h
  | arbiter a hg _ _ he =>
    intro hm
    obtain ⟨emergency, grants⟩ := h hm
    refine ⟨?_, fun p g n hgp => grants p g n ?_⟩
    · refine Bool.eq_false_iff.mpr fun hset => ?_
      rcases he hset with old | hmode
      · rw [emergency] at old
        cases old
      · exact hmode hm
    · rw [State.grant, Arbiter.grant, ← hg]
      exact hgp
  | retune gs hr => exact h.retuned hr
  | retire p r => exact h.retireHoldingSolar p r
  | hold held =>
    intro hm
    obtain ⟨emergency, grants⟩ := h hm
    refine ⟨emergency, fun p k n hk hcls => ?_⟩
    have mapped : (s.arbiter.grants.get p).map (Grant.heldAs held) = some k :=
      (Arbiter.grant_holdMustTake s.arbiter held p).symm.trans hk
    obtain ⟨g, hg, rfl⟩ := Option.map_eq_some_iff.mp mapped
    refine grants p g n hg ?_
    rw [g.heldAs_cls held] at hcls
    revert hcls
    cases g.cls with
    | mustTake _ => exact nofun
    | normal _ => exact id
    | hygiene => exact nofun
  | complete =>
    exact State.HolidaySound.retireAll _ _ (s := { s with hygiene := { state := .clear, limit := none } }) h

/-- HOLIDAY entered: no NORMAL grant is left and no emergency (R109, R121). -/
theorem State.holidaySound_enterHoliday (s : State) (st : Store) : (s.enterHoliday st).HolidaySound := by
  intro _
  refine ⟨rfl, fun p g n hg hn => ?_⟩
  have left : (State.retireAll { s with store := some { st with holiday := true } } .mode s.arbiter.normalPorts).grant p
      = some g := hg
  rw [State.grant_retireAll] at left
  split at left
  · cases left
  · next hp => exact hp (Arbiter.mem_normalPorts.mpr ⟨g, n, left, hn⟩)

theorem State.HolidaySound.invariant : Invariant State.HolidaySound where
  act := by
    intro r s t a h
    cases a with
    | operation o => exact o.moves.keep State.HolidaySound.move h
    | link | scanner | corrections | probes | port => exact h
    | store st st' _ hst hcfg hh =>
      intro hm
      refine h ?_
      simpa only [State.mode, hst, hh] using hm
    | running st => exact nofun
    | enterHoliday st => exact s.holidaySound_enterHoliday st
    | start => exact fun _ => ⟨rfl, fun p g n hg => nomatch (PerPort.get_replicate none p).symm.trans hg⟩
    | grant p c st cls supply ha hh =>
      intro hm
      obtain ⟨emergency, grants⟩ := h hm
      refine ⟨emergency, fun q g n hg hn => ?_⟩
      rcases State.grant_grantCharge hg with ⟨-, hcls⟩ | ⟨-, old⟩
      · rw [hcls] at hn
        have running := mode_of_running ha.store (ha.normal n hn).2.1
        rw [show s.mode = .holiday from hm] at running
        cases running
      · exact grants q g n old hn
    | hygieneGrant p c st supply limit =>
      intro hm
      obtain ⟨emergency, grants⟩ := h hm
      refine ⟨emergency, fun q g n hg hn => ?_⟩
      rcases State.grant_grantCharge hg with ⟨-, hcls⟩ | ⟨-, old⟩
      · rw [hcls] at hn
        cases hn
      · exact grants q g n old hn
  tick s h := by
    intro hm
    refine h.retuned (keptGrants_pass s.arbiter.grants).retuned ?_
    rw [State.mode, State.tick_store] at hm
    cases hst : s.store with
    | none => rw [hst] at hm; cases hm
    | some st =>
      rw [hst] at hm
      exact hm
  frame _ _ _ _ h := h
  notices _ _ _ h := h
  reset _ _ := nofun

/-- Settles O56: a hold finds only MUST_TAKE grants, a release makes them ACTIVE, and the gates of R90 to R97 and the entry
of HOLIDAY keep the two apart from NORMAL grants. -/
theorem everyStepKeepsOverheatAndHoliday : Obligations.EveryStepKeepsOverheatAndHoliday :=
  fun _ _ he => ⟨fun hs => State.OverheatSound.invariant.step hs he, fun hs => State.HolidaySound.invariant.step hs he⟩

/-! ### The hygiene run -/

/-- A HYGIENE grant stands at a port. -/
def State.HygieneAt (s : State) (p : PortId) : Prop := ∃ g, s.grant p = some g ∧ g.cls = .hygiene

theorem State.hygieneSound_iff {s : State} : s.HygieneSound ↔
    (s.hygiene.state = .inProgress ↔ ∃ p, s.HygieneAt p) ∧ (∀ p q, s.HygieneAt p → s.HygieneAt q → p = q)
      ∧ (s.hygiene.limit ≠ none ↔ s.hygiene.state = .inProgress) := by
  refine and_congr Iff.rfl (and_congr ⟨fun h p q hp hq => ?_, fun h p q g k hg hk hgc hkc => ?_⟩ Iff.rfl)
  · obtain ⟨g, hg, hgc⟩ := hp
    obtain ⟨k, hk, hkc⟩ := hq
    exact h p q g k hg hk hgc hkc
  · exact h p q ⟨g, hg, hgc⟩ ⟨k, hk, hkc⟩

/-- HygieneSound rests on the Monitor and on where HYGIENE grants stand. -/
theorem State.HygieneSound.of_at {s t : State} (h : s.HygieneSound) (state : t.hygiene.state = s.hygiene.state)
    (limit : t.hygiene.limit = none ↔ s.hygiene.limit = none) (stand : ∀ p, t.HygieneAt p ↔ s.HygieneAt p) :
    t.HygieneSound := by
  rw [State.hygieneSound_iff] at h ⊢
  simpa only [state, ne_eq, limit, stand] using h

theorem State.hygieneAt_congr {s t : State} (h : ∀ p, t.grant p = s.grant p) (p : PortId) :
    t.HygieneAt p ↔ s.HygieneAt p := by
  rw [State.HygieneAt, h, State.HygieneAt]

theorem State.hygieneAt_retireHoldingSolar (s : State) (p q : PortId) (r : Reason) :
    (s.retireHoldingSolar p r).HygieneAt q ↔ q ≠ p ∧ s.HygieneAt q := by
  rw [State.HygieneAt, State.grant_retireHoldingSolar]
  by_cases hq : q = p
  · simp [hq]
  · simp [hq, State.HygieneAt]

theorem State.HygieneSound.retireHoldingSolar {s : State} (h : s.HygieneSound) {p : PortId} {r : Reason}
    (hr : r = .completed → ¬s.HygieneAt p) : (s.retireHoldingSolar p r).HygieneSound := by
  by_cases hp : s.HygieneAt p
  · -- the run's own grant ends, and the run fails
    obtain ⟨g, hg, hcls⟩ := id hp
    obtain ⟨state, one, -⟩ := State.hygieneSound_iff.mp h
    have notCompleted : r ≠ .completed := fun e => hr e hp
    have failed := State.retireHoldingSolar_of_failed hg hcls notCompleted (state.mpr ⟨p, hp⟩)
    have noneLeft : ∀ q, ¬(s.retireHoldingSolar p r).HygieneAt q := fun q hq =>
      ((s.hygieneAt_retireHoldingSolar p q r).mp hq).1 (one q p ((s.hygieneAt_retireHoldingSolar p q r).mp hq).2 hp)
    rw [State.hygieneSound_iff]
    refine ⟨⟨fun hi => ?_, fun ⟨q, hq⟩ => absurd hq (noneLeft q)⟩, fun q _ hq => absurd hq (noneLeft q), ?_⟩
    · rw [failed] at hi
      cases hi
    · rw [failed]
      exact ⟨fun hl => absurd rfl hl, nofun⟩
  · have same := State.retireHoldingSolar_hygiene (r := r) fun g hg hcls => hp ⟨g, hg, hcls⟩
    refine h.of_at (congrArg Hygiene.state same) (by rw [same]) fun q => ?_
    rw [State.hygieneAt_retireHoldingSolar]
    exact ⟨And.right, fun hq => ⟨fun e => hp (e ▸ hq), hq⟩⟩

theorem State.HygieneSound.retireAll {r : Reason} (hr : r ≠ .completed) : ∀ (ps : List PortId) {s : State},
    s.HygieneSound → (s.retireAll r ps).HygieneSound
  | [], _, h => h
  | _ :: ps, _, h => State.HygieneSound.retireAll hr ps (h.retireHoldingSolar fun e => absurd e hr)

/-- COMPLETED ends leave the Monitor alone (R136). -/
theorem State.hygiene_retireAll_completed : ∀ (ps : List PortId) (s : State),
    (s.retireAll .completed ps).hygiene = s.hygiene
  | [], _ => rfl
  | p :: ps, s => by
    have one : (s.retireHoldingSolar p .completed).hygiene = s.hygiene := by
      cases hg : s.grant p with
      | none => rw [State.retireHoldingSolar_none hg]
      | some g => rw [State.retireHoldingSolar_of_grant hg fun hf => hf.2.1 rfl]
    exact (State.hygiene_retireAll_completed ps _).trans one

theorem State.HygieneSound.retuned {s : State} (h : s.HygieneSound) {gs : PerPort (Option Grant)}
    (hr : Retuned s.arbiter.grants gs) : State.HygieneSound { s with arbiter := { s.arbiter with grants := gs } } := by
  refine h.of_at rfl Iff.rfl fun p => ⟨fun ⟨k, hk, hcls⟩ => ?_, fun ⟨g, hg, hcls⟩ => ?_⟩
  · obtain ⟨g, hg, hgk⟩ := hr.grant hk
    exact ⟨g, hg, hgk.hygiene_iff.mp hcls⟩
  · obtain ⟨k, hk, hgk⟩ := hr.grant' hg
    exact ⟨k, hk, hgk.hygiene_iff.mpr hcls⟩

theorem State.HygieneSound.move {s t : State} (m : Move s t) (h : s.HygieneSound) : t.HygieneSound := by
  cases m with
  | raise | chosen => exact h
  | arbiter a hg => exact h.of_at rfl Iff.rfl (State.hygieneAt_congr fun p => congrArg (PerPort.get · p) hg)
  | retune gs hr => exact h.retuned hr
  | retire p r hr => exact h.retireHoldingSolar fun e ⟨g, hg, hcls⟩ => hr e g hg hcls
  | hold held =>
    refine h.of_at rfl Iff.rfl fun p => ?_
    have mapped : State.grant { s with arbiter := { s.arbiter.holdMustTake held with overheat := held } } p
        = (s.grant p).map (Grant.heldAs held) := Arbiter.grant_holdMustTake s.arbiter held p
    rw [State.HygieneAt, mapped, State.HygieneAt]
    cases s.grant p with
    | none => simp
    | some g =>
      simp only [Option.map_some, Option.some.injEq, exists_eq_left', g.heldAs_cls held]
      cases g.cls <;> simp
  | due hs =>
    obtain ⟨state, one, limit⟩ := State.hygieneSound_iff.mp h
    rw [hs] at state limit
    refine State.hygieneSound_iff.mpr ⟨⟨nofun, fun hp => nomatch state.mpr hp⟩, one, ⟨fun hl => ?_, nofun⟩⟩
    exact nomatch limit.mp hl
  | clean hs =>
    obtain ⟨state, one, limit⟩ := State.hygieneSound_iff.mp h
    rw [hs] at state limit
    refine State.hygieneSound_iff.mpr ⟨⟨nofun, fun hp => nomatch state.mpr hp⟩, one, ⟨fun hl => ?_, nofun⟩⟩
    exact nomatch limit.mp hl
  | complete =>
    have monitor := State.hygiene_retireAll_completed s.arbiter.hygienePorts
      { s with hygiene := { state := .clear, limit := none } }
    have noneLeft : ∀ q, ¬(State.retireAll { s with hygiene := { state := .clear, limit := none } } .completed
        s.arbiter.hygienePorts).HygieneAt q := by
      rintro q ⟨g, hg, hcls⟩
      rw [State.grant_retireAll] at hg
      split at hg
      · cases hg
      · next hq => exact hq (Arbiter.mem_hygienePorts.mpr ⟨g, hg, hcls⟩)
    refine State.hygieneSound_iff.mpr ⟨⟨fun hi => ?_, fun ⟨q, hq⟩ => absurd hq (noneLeft q)⟩,
      fun q _ hq => absurd hq (noneLeft q), ?_⟩
    · rw [monitor] at hi
      cases hi
    · rw [monitor]
      exact ⟨fun hl => absurd rfl hl, nofun⟩

theorem State.HygieneSound.granted {s : State} (h : s.HygieneSound) {p : PortId} {c : PortConfig} {cls : GrantClass}
    {supply : Nat} (free : s.grant p = none) (hh : cls ≠ .hygiene) :
    (s.grantCharge p c cls supply).state.HygieneSound := by
  refine h.of_at rfl Iff.rfl fun q => ⟨fun ⟨g, hg, hcls⟩ => ?_, fun ⟨g, hg, hcls⟩ => ?_⟩
  · rcases State.grant_grantCharge hg with ⟨-, new⟩ | ⟨-, old⟩
    · exact absurd (new.symm.trans hcls) hh
    · exact ⟨g, old, hcls⟩
  · have hq : q ≠ p := fun e => by rw [e, free] at hg; cases hg
    exact ⟨g, (PerPort.get_set_other _ _ hq).trans hg, hcls⟩

theorem State.HygieneSound.started {s : State} (h : s.HygieneSound) (p : PortId) (c : PortConfig) (supply limit : Nat)
    (hd : s.hygiene.state = .due) :
    (State.grantCharge { s with hygiene := { state := .inProgress, limit := some limit } } p c .hygiene
      supply).state.HygieneSound := by
  obtain ⟨state, -, -⟩ := State.hygieneSound_iff.mp h
  have only : ∀ q, (State.grantCharge { s with hygiene := { state := .inProgress, limit := some limit } } p c .hygiene
      supply).state.HygieneAt q → q = p := by
    rintro q ⟨g, hg, hcls⟩
    rcases State.grant_grantCharge hg with ⟨hq, -⟩ | ⟨-, old⟩
    · exact hq
    · have running := state.mpr ⟨q, g, old, hcls⟩
      rw [hd] at running
      cases running
  refine State.hygieneSound_iff.mpr ⟨⟨fun _ => ?_, fun _ => rfl⟩, fun q q' hq hq' => (only q hq).trans (only q' hq').symm,
    ⟨fun _ => rfl, fun _ => nofun⟩⟩
  obtain ⟨g, hg, hcls⟩ := State.grant_grantCharge_self { s with hygiene := { state := .inProgress, limit := some limit } }
    p c .hygiene supply
  exact ⟨p, g, hg, hcls⟩

theorem State.HygieneSound.invariant : Invariant State.HygieneSound where
  act := by
    intro r s t a h
    cases a with
    | operation o => exact o.moves.keep State.HygieneSound.move h
    | link | scanner | corrections | probes | store | running | port => exact h
    | enterHoliday st =>
      exact State.HygieneSound.retireAll (by decide) _ (s := { s with store := some { st with holiday := true } }) h
    | start =>
      have noneStands : ∀ p, ¬∃ g, Arbiter.initial.grants.get p = some g ∧ g.cls = .hygiene :=
        fun p ⟨g, hg, _⟩ => nomatch (PerPort.get_replicate none p).symm.trans hg
      exact State.hygieneSound_iff.mpr ⟨⟨nofun, fun ⟨p, hp⟩ => absurd hp (noneStands p)⟩,
        fun p _ hp => absurd hp (noneStands p), ⟨fun hl => absurd rfl hl, nofun⟩⟩
    | grant p c st cls supply ha hh => exact h.granted ha.free hh
    | hygieneGrant p c st supply limit _ _ hd => exact h.started p c supply limit hd
  tick s h := (h.retuned (keptGrants_pass s.arbiter.grants).retuned).of_at rfl Timer.pass_eq_none fun _ => Iff.rfl
  frame _ _ _ _ h := h
  notices _ _ _ h := h
  reset s l := by
    have noneStands : ∀ p, ¬∃ g, Arbiter.initial.grants.get p = some g ∧ g.cls = .hygiene :=
      fun p ⟨g, hg, _⟩ => nomatch (PerPort.get_replicate none p).symm.trans hg
    exact State.hygieneSound_iff.mpr ⟨⟨nofun, fun ⟨p, hp⟩ => absurd hp (noneStands p)⟩,
      fun p _ hp => absurd hp (noneStands p), ⟨fun hl => absurd rfl hl, nofun⟩⟩

/-- Settles O57: a run starts from DUE with its grant, and ends with it. -/
theorem everyStepKeepsHygiene : Obligations.EveryStepKeepsHygiene :=
  fun _ _ hs he => State.HygieneSound.invariant.step hs he

end Sys2Proof.Machine
end

section
/-!
PROOF. The headline invariant: every step keeps the resume list, the marks and solar-active in agreement with the grants
(R101, R113 to R118, R122). The list is followed through ends, pushes, pops and standing aside; the MUST_TAKE grant behind
solar-active is followed apart from it, since an end may leave solar-active without one until it is cleared.
-/

namespace Sys2Proof.Machine

open Relation (ReflTransGen)

/-! ### The list, the marks and the idle timer -/

/-- A mark stands only where R114 and R115 put it, and a suspended grant's minimum run is over. -/
structure NormalGrant.Stands (n : NormalGrant) (a : Arbiter) : Prop where
  mark : n.suspendPending = true →
    a.solarActive = true ∧ a.comfortEmergency = false ∧ n.minRun ≠ none ∧ n.suspended = false
  ranOut : n.suspended = true → n.minRun = none

/-- The resume list of at most so many entries, the marks and the idle timer agree with the grants. -/
structure Arbiter.ListSound (most : Nat) (a : Arbiter) : Prop where
  nodup : a.resume.Nodup
  length : a.resume.length ≤ most
  mem : ∀ p, p ∈ a.resume ↔ a.SuspendedAt p
  clear : a.solarActive = false → a.resume = []
  emergency : a.comfortEmergency = true → a.resume = []
  stands : ∀ p g n, a.grants.get p = some g → g.cls = .normal n → n.Stands a
  idle : a.solarActive = true ↔ a.solarIdle ≠ none

/-- Some MUST_TAKE grant stands. -/
def Arbiter.MustTakeStands (a : Arbiter) : Prop := ∃ p g held, a.grants.get p = some g ∧ g.cls = .mustTake held

theorem State.resumeSound_iff {s : State} :
    s.ResumeSound ↔ s.arbiter.ListSound 4 ∧ (s.arbiter.solarActive = true → s.arbiter.MustTakeStands) := by
  constructor
  · rintro ⟨nodup, length, mem, clear, emergency, mark, ranOut, idle, mustTake⟩
    exact ⟨⟨nodup, length, mem, clear, emergency, fun p g n hg hn => ⟨mark p g n hg hn, ranOut p g n hg hn⟩, idle⟩, mustTake⟩
  · rintro ⟨⟨nodup, length, mem, clear, emergency, stands, idle⟩, mustTake⟩
    exact ⟨nodup, length, mem, clear, emergency, fun p g n hg hn => (stands p g n hg hn).mark,
      fun p g n hg hn => (stands p g n hg hn).ranOut, idle, mustTake⟩

theorem NormalGrant.Stands.of_figures {n : NormalGrant} {a b : Arbiter} (h : n.Stands a)
    (solar : b.solarActive = a.solarActive) (emergency : b.comfortEmergency = a.comfortEmergency) : n.Stands b :=
  ⟨fun hm => by rw [solar, emergency]; exact h.mark hm, h.ranOut⟩

theorem Arbiter.suspendedAt_congr {a b : Arbiter} {p : PortId} (h : b.grants.get p = a.grants.get p) :
    b.SuspendedAt p ↔ a.SuspendedAt p := by
  simp only [Arbiter.SuspendedAt, h]

/-- One grant changed or made, and the list with it. -/
theorem Arbiter.ListSound.set {most most' : Nat} {a : Arbiter} (h : a.ListSound most) {p : PortId} {k : Grant}
    {l : List PortId} (nodup : l.Nodup) (length : l.length ≤ most') (others : ∀ q, q ≠ p → (q ∈ l ↔ q ∈ a.resume))
    (own : p ∈ l ↔ ∃ n, k.cls = .normal n ∧ n.suspended = true) (clear : a.solarActive = false → l = [])
    (emergency : a.comfortEmergency = true → l = []) (stands : ∀ n, k.cls = .normal n → n.Stands a) :
    Arbiter.ListSound most' { a with grants := a.grants.set p (some k), resume := l } where
  nodup := nodup
  length := length
  mem q := by
    by_cases hq : q = p
    · subst hq
      refine own.trans ⟨fun ⟨n, hn, hs⟩ => ⟨k, n, PerPort.get_set_same _ _ _, hn, hs⟩, fun ⟨g, n, hg, hn, hs⟩ => ?_⟩
      rw [show (a.grants.set q (some k)).get q = some k from PerPort.get_set_same _ _ _] at hg
      cases hg
      exact ⟨n, hn, hs⟩
    · rw [others q hq, h.mem q]
      exact (Arbiter.suspendedAt_congr (PerPort.get_set_other _ _ hq)).symm
  clear := clear
  emergency := emergency
  stands q g n hg hn := by
    have grant : (a.grants.set p (some k)).get q = some g := hg
    rw [PerPort.get_set] at grant
    split at grant
    · cases grant
      exact (stands n hn).of_figures rfl rfl
    · exact (h.stands q g n grant hn).of_figures rfl rfl
  idle := h.idle

/-- The end of a grant takes its entry off the list (R101). -/
theorem Arbiter.ListSound.endGrant {most : Nat} {a : Arbiter} (h : a.ListSound most) (p : PortId) (handle : Byte)
    (r : Reason) : (a.endGrant p handle r).ListSound most where
  nodup := h.nodup.filter _
  length := (List.length_filter_le _ _).trans h.length
  mem q := by
    have grant : (a.endGrant p handle r).grants.get q = if q = p then none else a.grants.get q := PerPort.get_set _ _ _ _
    have listed : q ∈ (a.endGrant p handle r).resume ↔ q ∈ a.resume ∧ q ≠ p := by simp [Arbiter.endGrant]
    rw [listed, h.mem q]
    by_cases hq : q = p
    · rw [if_pos hq] at grant
      exact ⟨fun h => absurd hq h.2, fun ⟨g, n, hg, _⟩ => nomatch grant.symm.trans hg⟩
    · rw [if_neg hq] at grant
      rw [Arbiter.suspendedAt_congr grant]
      exact and_iff_left hq
  clear hs := by
    rw [Arbiter.endGrant, h.clear hs]
    rfl
  emergency he := by
    rw [Arbiter.endGrant, h.emergency he]
    rfl
  stands q g n hg hn := by
    have grant : (a.endGrant p handle r).grants.get q = if q = p then none else a.grants.get q := PerPort.get_set _ _ _ _
    rw [grant] at hg
    split at hg
    · cases hg
    · exact (h.stands q g n hg hn).of_figures rfl rfl
  idle := h.idle

/-- The end of a listed grant makes room on the list. -/
theorem Arbiter.ListSound.endListed {most : Nat} {a : Arbiter} (h : a.ListSound (most + 1)) {p : PortId}
    (hp : p ∈ a.resume) (handle : Byte) (r : Reason) : (a.endGrant p handle r).ListSound most := by
  refine { h.endGrant p handle r with length := ?_ }
  have shorter : (a.resume.filter fun q => decide (q ≠ p)).length < a.resume.length :=
    List.length_filter_lt_length_iff_exists.mpr ⟨p, hp, by simp⟩
  have := h.length
  exact Nat.le_of_lt_succ (shorter.trans_le this)

theorem Arbiter.ListSound.retireHoldingSolar {most : Nat} {s : State} (h : s.arbiter.ListSound most) (p : PortId)
    (r : Reason) : (s.retireHoldingSolar p r).arbiter.ListSound most := by
  cases hg : s.grant p with
  | none => rwa [State.retireHoldingSolar_none hg]
  | some g =>
    rw [State.retireHoldingSolar_arbiter hg]
    exact h.endGrant p g.handle r

theorem Arbiter.ListSound.retireAll {most : Nat} (r : Reason) : ∀ (ps : List PortId) {s : State},
    s.arbiter.ListSound most → (s.retireAll r ps).arbiter.ListSound most
  | [], _, h => h
  | p :: ps, _, h => Arbiter.ListSound.retireAll r ps (h.retireHoldingSolar p r)

/-! ### The MUST_TAKE grant behind solar-active -/

/-- The ends of grants that are not MUST_TAKE leave one that stands. -/
theorem State.mustTakeStands_retireHoldingSolar {s : State} (h : s.arbiter.MustTakeStands) {p : PortId}
    (hp : ∀ g held, s.grant p = some g → g.cls ≠ .mustTake held) (r : Reason) :
    (s.retireHoldingSolar p r).arbiter.MustTakeStands := by
  obtain ⟨q, g, held, hg, hcls⟩ := h
  refine ⟨q, g, held, ?_, hcls⟩
  have hq : q ≠ p := fun e => hp g held (e ▸ hg) hcls
  exact (s.grant_retireHoldingSolar p q r).trans ((if_neg hq).trans hg)

theorem State.mustTakeStands_retireAll {s : State} (h : s.arbiter.MustTakeStands) (r : Reason) {ps : List PortId}
    (hps : ∀ p ∈ ps, ∀ g held, s.grant p = some g → g.cls ≠ .mustTake held) :
    (s.retireAll r ps).arbiter.MustTakeStands := by
  obtain ⟨q, g, held, hg, hcls⟩ := h
  refine ⟨q, g, held, (State.grant_retireAll r q ps s).trans ((if_neg fun hq => ?_).trans hg), hcls⟩
  exact hps q hq g held hg hcls

/-- The end of grants that are not MUST_TAKE keeps everything in agreement. -/
theorem State.ResumeSound.retireAll {s : State} (h : s.ResumeSound) (r : Reason) {ps : List PortId}
    (hps : ∀ p ∈ ps, ∀ g held, s.grant p = some g → g.cls ≠ .mustTake held) : (s.retireAll r ps).ResumeSound := by
  obtain ⟨list, mustTake⟩ := State.resumeSound_iff.mp h
  refine State.resumeSound_iff.mpr ⟨list.retireAll r ps, fun hs => ?_⟩
  rw [(s.keepsFigures_retireAll r ps).solarActive] at hs
  exact State.mustTakeStands_retireAll (mustTake hs) r hps

/-- Nothing listed, suspended or marked agrees with any figures of solar-active. -/
theorem State.resumeSound_of_empty {s : State} (list : s.arbiter.resume = []) (none_ : ∀ p, ¬s.arbiter.SuspendedAt p)
    (marks : s.NoMarks) (idle : s.arbiter.solarActive = true ↔ s.arbiter.solarIdle ≠ none)
    (mustTake : s.arbiter.solarActive = true → s.arbiter.MustTakeStands) : s.ResumeSound := by
  refine State.resumeSound_iff.mpr ⟨⟨?_, ?_, fun p => ?_, fun _ => list, fun _ => list, fun p g n hg hn => ?_, idle⟩, mustTake⟩
  · rw [list]
    exact List.nodup_nil
  · rw [list]
    exact Nat.zero_le _
  · rw [list]
    exact ⟨fun h => absurd h List.not_mem_nil, fun h => absurd h (none_ p)⟩
  · exact ⟨fun hm => (by rw [marks p g n hg hn] at hm; cases hm), fun hs => absurd ⟨g, n, hg, hn, hs⟩ (none_ p)⟩

/-! ### The list popped -/

/-- A resumption leaves its grant not SUSPENDED (R117). -/
theorem State.not_suspendedAt_resumeGrant {s : State} (hst : ∀ p g, s.grant p = some g → s.store.isSome) (p : PortId) :
    ¬(s.resumeGrant p).arbiter.SuspendedAt p := by
  rintro ⟨k, m, hk, hm, hs⟩
  have hgrant : (s.resumeGrant p).grant p = some k := hk
  obtain ⟨e, other⟩ | ⟨st, g, n, hstore, hg, hn, e | ⟨fresh, -, -, e⟩⟩ := s.resumeGrant_cases p <;> rw [e] at hgrant
  · obtain ⟨st, hstore⟩ := Option.isSome_iff_exists.mp (hst p k hgrant)
    exact other st k m hstore hgrant hm
  · rw [State.grant_retireHoldingSolar, if_pos rfl] at hgrant
    cases hgrant
  · rw [State.grant_changeGrant, if_pos rfl, hg, Option.map_some, Option.some.injEq] at hgrant
    rw [← hgrant, Grant.resumed, Grant.changeNormal_of_normal hn] at hm
    cases hm
    cases hs

theorem State.not_suspendedAt_popEntries : ∀ (l : List PortId) (s : State),
    (∀ p g, s.grant p = some g → s.store.isSome) → (∀ p, s.arbiter.SuspendedAt p → p ∈ l) →
      ∀ p, ¬(State.popEntries l s).arbiter.SuspendedAt p
  | [], _, _, hl, p, hp => absurd (hl p hp) List.not_mem_nil
  | q :: rest, s, hst, hl, p, hp => by
    have figures := State.keepsFigures_resumeGrant { s with arbiter := { s.arbiter with resume := rest } } q
    have others (k : PortId) (hk : k ≠ q) := State.grant_resumeGrant_other
      { s with arbiter := { s.arbiter with resume := rest } } hk
    have stored : ∀ p g, s.grant p = some g → s.store.isSome := hst
    refine State.not_suspendedAt_popEntries rest
      (State.resumeGrant { s with arbiter := { s.arbiter with resume := rest } } q) (fun k g hg => ?_) (fun k hk => ?_) p hp
    · rw [figures.store]
      by_cases hkq : k = q
      · -- the popped port held a grant before
        cases hold : s.grant q with
        | some g' => exact stored q g' hold
        | none =>
          obtain ⟨e, -⟩ | ⟨st, -, -, hstore, -⟩ := State.resumeGrant_cases
            { s with arbiter := { s.arbiter with resume := rest } } q
          · rw [e, hkq] at hg
            exact nomatch hold.symm.trans hg
          · exact Option.isSome_of_eq_some hstore
      · rw [others k hkq] at hg
        exact stored k g hg
    · have hkq : k ≠ q := fun e => State.not_suspendedAt_resumeGrant
        (s := { s with arbiter := { s.arbiter with resume := rest } }) hst q (e ▸ hk)
      have before : s.arbiter.SuspendedAt k := (Arbiter.suspendedAt_congr (others k hkq)).mp hk
      exact (List.mem_cons.mp (hl k before)).resolve_left hkq

/-- With the list popped no grant is SUSPENDED (R116). -/
theorem State.not_suspendedAt_popResume {s : State} (hst : ∀ p g, s.grant p = some g → s.store.isSome)
    (h : ∀ p, s.arbiter.SuspendedAt p → p ∈ s.arbiter.resume) : ∀ p, ¬s.popResume.arbiter.SuspendedAt p :=
  State.not_suspendedAt_popEntries _ s hst h

/-- Marks removed: what is suspended stays so. -/
theorem State.suspendedAt_removeMarks {s : State} {p : PortId} :
    s.removeMarks.arbiter.SuspendedAt p ↔ s.arbiter.SuspendedAt p := by
  have grant : s.removeMarks.arbiter.grants.get p
      = (s.arbiter.grants.get p).map (Grant.changeNormal fun n => { n with suspendPending := false }) :=
    s.grant_removeMarks p
  constructor
  · rintro ⟨g, m, hg, hm, hs⟩
    rw [grant] at hg
    obtain ⟨k, hk, rfl⟩ := Option.map_eq_some_iff.mp hg
    obtain ⟨n, hn, rfl⟩ := Grant.changeNormal_normal hm
    exact ⟨k, n, hk, hn, hs⟩
  · rintro ⟨g, n, hg, hn, hs⟩
    refine ⟨_, { n with suspendPending := false }, by rw [grant, hg, Option.map_some], ?_, hs⟩
    rw [Grant.changeNormal_of_normal hn]

theorem State.mustTakeStands_removeMarks {s : State} (h : s.arbiter.MustTakeStands) :
    s.removeMarks.arbiter.MustTakeStands := by
  obtain ⟨p, g, held, hg, hcls⟩ := h
  refine ⟨p, g, held, (s.grant_removeMarks p).trans ?_, hcls⟩
  rw [show s.grant p = some g from hg, Option.map_some, Grant.changeNormal_of_other fun n hn => by rw [hcls] at hn; cases hn]

theorem State.mustTakeStands_popResume {s : State} (hl : ∀ p, p ∈ s.arbiter.resume → s.arbiter.SuspendedAt p)
    (h : s.arbiter.MustTakeStands) : s.popResume.arbiter.MustTakeStands := by
  obtain ⟨p, g, held, hg, hcls⟩ := h
  refine ⟨p, g, held, (State.grant_popResume_other fun hp => ?_).trans hg, hcls⟩
  obtain ⟨k, n, hk, hn, -⟩ := hl p hp
  rw [hg] at hk
  cases hk
  rw [hcls] at hn
  cases hn

/-- Marks removed and the list popped, whatever solar-active and the emergency have become. -/
theorem State.resumeSound_popped {s : State} (hst : ∀ p g, s.grant p = some g → s.store.isSome)
    (mem : ∀ p, p ∈ s.arbiter.resume ↔ s.arbiter.SuspendedAt p)
    (idle : s.arbiter.solarActive = true ↔ s.arbiter.solarIdle ≠ none)
    (mustTake : s.arbiter.solarActive = true → s.arbiter.MustTakeStands) : s.removeMarks.popResume.ResumeSound := by
  have figures := s.keepsFigures_removeMarks.trans s.removeMarks.keepsFigures_popResume
  refine State.resumeSound_of_empty (State.resume_popResume _) (State.not_suspendedAt_popResume (fun p g hg => ?_) fun p hp => ?_)
    s.noMarks_removeMarks.popResume ?_ fun hs => ?_
  · rw [State.grant_removeMarks] at hg
    obtain ⟨k, hk, -⟩ := Option.map_eq_some_iff.mp hg
    exact hst p k hk
  · exact (mem p).mpr (State.suspendedAt_removeMarks.mp hp)
  · rw [figures.solarActive, figures.solarIdle, idle]
  · rw [figures.solarActive] at hs
    exact State.mustTakeStands_popResume (fun p hp => State.suspendedAt_removeMarks.mpr ((mem p).mp hp))
      (State.mustTakeStands_removeMarks (mustTake hs))

/-- Solar-active cleared (R116). -/
theorem State.resumeSound_clearSolar {s : State} {most : Nat} (hst : ∀ p g, s.grant p = some g → s.store.isSome)
    (h : s.arbiter.ListSound most) (hs : s.arbiter.solarActive = true) : s.clearSolar.ResumeSound := by
  rw [(State.clearSolar_spec hs).1]
  exact State.resumeSound_popped (s := s.solarCleared) hst h.mem ⟨nofun, fun hi => absurd rfl hi⟩ nofun

/-! ### Pushing and standing aside -/

/-- A grant made SUSPENDED, and pushed (R114, R118). -/
theorem Arbiter.ListSound.pushed {s : State} (h : s.arbiter.ListSound 4) {p : PortId} {g : Grant} {n m : NormalGrant}
    {f : Grant → Grant} (hg : s.grant p = some g) (hn : g.cls = .normal n) (hns : n.suspended = false)
    (hm : (f g).cls = .normal m) (hms : m.suspended = true) (hmark : m.suspendPending = false) (hover : m.minRun = none)
    (solar : s.arbiter.solarActive = true) (calm : s.arbiter.comfortEmergency = false) :
    ((s.changeGrant p f).pushResume p).arbiter.ListSound 4 := by
  have unlisted : p ∉ s.arbiter.resume := by
    intro hp
    obtain ⟨k, n', hk, hn', hs'⟩ := (h.mem p).mp hp
    rw [show s.arbiter.grants.get p = some g from hg] at hk
    cases hk
    rw [hn] at hn'
    cases hn'
    rw [hns] at hs'
    cases hs'
  -- the list with the entry on top, one too long where it was full
  have longer : ∀ most, s.arbiter.resume.length + 1 ≤ most → Arbiter.ListSound most
      { s.arbiter with grants := s.arbiter.grants.set p (some (f g)), resume := p :: s.arbiter.resume } := fun most hmost => by
    refine h.set (List.nodup_cons.mpr ⟨unlisted, h.nodup⟩) hmost (fun q hq => by simp [hq]) ?_ (fun hc => ?_) (fun he => ?_)
      fun k hk => ?_
    · exact ⟨fun _ => ⟨m, hm, hms⟩, fun _ => List.mem_cons_self⟩
    · rw [solar] at hc
      cases hc
    · rw [calm] at he
      cases he
    · rw [hm] at hk
      cases hk
      exact ⟨fun hp => (by rw [hmark] at hp; cases hp), fun _ => hover⟩
  have changed : (s.changeGrant p f).arbiter = { s.arbiter with grants := s.arbiter.grants.set p (some (f g)) } := by
    have held : s.arbiter.grants.get p = some g := hg
    rw [State.changeGrant, Arbiter.changeGrant, held, Option.map_some]
  by_cases hroom : s.arbiter.resume.length < 4
  · rw [State.pushResume_of_room (by rw [changed]; exact hroom), changed]
    exact longer 4 hroom
  · -- a full list loses its bottom entry first
    obtain ⟨above, q, hlist⟩ : ∃ above q, s.arbiter.resume = above ++ [q] := by
      rcases List.eq_nil_or_concat s.arbiter.resume with hnil | ⟨above, q, hc⟩
      · rw [hnil] at hroom
        exact absurd (Nat.zero_lt_succ 3) hroom
      · exact ⟨above, q, by rw [hc, List.concat_eq_append]⟩
    have hq : q ∈ s.arbiter.resume := by rw [hlist]; simp
    have hqp : q ≠ p := fun e => unlisted (e ▸ hq)
    obtain ⟨k, -, hk, -⟩ := (h.mem q).mp hq
    have hk' : (s.changeGrant p f).grant q = some k := by
      rw [State.grant_changeGrant, if_neg hqp]
      exact hk
    have full : (s.changeGrant p f).arbiter.resume = above ++ [q] := by rw [changed]; exact hlist
    have long : 3 ≤ above.length := by
      have := congrArg List.length hlist
      rw [List.length_append, List.length_singleton] at this
      omega
    rw [State.pushResume_of_full full long, State.retireHoldingSolar_arbiter hk', changed]
    have ended := (longer 5 (Nat.succ_le_succ h.length)).endListed (p := q) (List.mem_cons_of_mem p hq) k.handle .abandoned
    have filtered : (p :: s.arbiter.resume).filter (fun j => decide (j ≠ q))
        = p :: s.arbiter.resume.filter fun j => decide (j ≠ q) := by simp [Ne.symm hqp]
    rw [Arbiter.endGrant] at ended
    dsimp only at ended
    rw [filtered] at ended
    exact ended

theorem State.mustTakeStands_changeGrant {s : State} (h : s.arbiter.MustTakeStands) {p : PortId} {g : Grant}
    {n : NormalGrant} (hg : s.grant p = some g) (hn : g.cls = .normal n) (f : Grant → Grant) :
    (s.changeGrant p f).arbiter.MustTakeStands := by
  obtain ⟨q, k, held, hk, hcls⟩ := h
  refine ⟨q, k, held, (s.grant_changeGrant p q f).trans ((if_neg fun e => ?_).trans hk), hcls⟩
  have same : k = g := Option.some.inj (hk.symm.trans (e ▸ hg))
  rw [same, hn] at hcls
  cases hcls

theorem State.mustTakeStands_pushResume {s : State} (h : s.arbiter.MustTakeStands) (p : PortId)
    (hl : ∀ q ∈ s.arbiter.resume, s.arbiter.SuspendedAt q) : (s.pushResume p).arbiter.MustTakeStands := by
  unfold State.pushResume
  dsimp only
  split
  · split
    · next q hq =>
      refine State.mustTakeStands_retireHoldingSolar h (fun g held hg hcls => ?_) .abandoned
      obtain ⟨k, n, hk, hn, -⟩ := hl q (List.mem_of_getLast? hq)
      rw [show s.arbiter.grants.get q = some g from hg] at hk
      cases hk
      rw [hcls] at hn
      cases hn
    · exact h
  · exact h

/-- What standing grants aside needs and keeps: solar-active set over a standing MUST_TAKE grant, no emergency. -/
structure State.Aside (s : State) : Prop where
  list : s.arbiter.ListSound 4
  solar : s.arbiter.solarActive = true
  calm : s.arbiter.comfortEmergency = false
  mustTake : s.arbiter.MustTakeStands

theorem State.Aside.sound {s : State} (h : s.Aside) : s.ResumeSound :=
  State.resumeSound_iff.mpr ⟨h.list, fun _ => h.mustTake⟩

theorem State.Aside.pushed {s : State} (h : s.Aside) {p : PortId} {g : Grant} {n m : NormalGrant} {f : Grant → Grant}
    (hg : s.grant p = some g) (hn : g.cls = .normal n) (hns : n.suspended = false) (hm : (f g).cls = .normal m)
    (hms : m.suspended = true) (hmark : m.suspendPending = false) (hover : m.minRun = none) :
    ((s.changeGrant p f).pushResume p).Aside where
  list := h.list.pushed hg hn hns hm hms hmark hover h.solar h.calm
  solar := ((s.keepsFigures_changeGrant p f).trans (State.keepsFigures_pushResume _ p)).solarActive.trans h.solar
  calm := ((s.keepsFigures_changeGrant p f).trans (State.keepsFigures_pushResume _ p)).comfortEmergency.trans h.calm
  mustTake := by
    refine State.mustTakeStands_pushResume (State.mustTakeStands_changeGrant h.mustTake hg hn f) p fun q hq => ?_
    have suspended := (h.list.mem q).mp hq
    refine (Arbiter.suspendedAt_congr ((s.grant_changeGrant p q f).trans (if_neg fun e => ?_))).mpr suspended
    obtain ⟨k, n', hk, hn', hs'⟩ := suspended
    have same : k = g := Option.some.inj (hk.symm.trans (e ▸ hg))
    rw [same, hn] at hn'
    cases hn'
    rw [hns] at hs'
    cases hs'

/-- A change of a NORMAL grant that is no suspension. -/
theorem Arbiter.ListSound.changed {most : Nat} {s : State} (h : s.arbiter.ListSound most) {p : PortId} {g : Grant}
    {n m : NormalGrant} {f : Grant → Grant} (hg : s.grant p = some g) (hn : g.cls = .normal n)
    (hm : (f g).cls = .normal m) (same : m.suspended = n.suspended) (stands : m.Stands s.arbiter) :
    (s.changeGrant p f).arbiter.ListSound most := by
  have held : s.arbiter.grants.get p = some g := hg
  have changed : (s.changeGrant p f).arbiter
      = { s.arbiter with grants := s.arbiter.grants.set p (some (f g)), resume := s.arbiter.resume } := by
    rw [State.changeGrant, Arbiter.changeGrant, held, Option.map_some]
  rw [changed]
  refine h.set h.nodup h.length (fun _ _ => Iff.rfl) ?_ h.clear h.emergency fun k hk => ?_
  · rw [h.mem p]
    constructor
    · rintro ⟨k, n', hk, hn', hs'⟩
      rw [held] at hk
      cases hk
      rw [hn] at hn'
      cases hn'
      exact ⟨m, hm, same.trans hs'⟩
    · rintro ⟨m', hm', hs'⟩
      rw [hm] at hm'
      cases hm'
      exact ⟨g, n, held, hn, same.symm.trans hs'⟩
  · rw [hm] at hk
    cases hk
    exact stands

theorem State.Aside.standAsidePort {s : State} (h : s.Aside) (p : PortId) : (s.standAsidePort p).Aside := by
  unfold State.standAsidePort
  split
  · exact h
  · next n hn =>
    obtain ⟨g, hg, hcls⟩ := State.bind_normal?_eq_some.mp hn
    split
    · exact h
    · next hs =>
      have active : n.suspended = false := by simpa using hs
      split
      · next hover =>
        exact h.pushed hg hcls active (congrArg Grant.cls (Grant.changeNormal_of_normal hcls _)) rfl rfl hover
      · next hrun =>
        have marked := congrArg Grant.cls (Grant.changeNormal_of_normal hcls fun n => { n with suspendPending := true })
        exact
          { list := h.list.changed hg hcls marked rfl
              ⟨fun _ => ⟨h.solar, h.calm, hrun, active⟩, fun hp => absurd hp hs⟩
            solar := h.solar, calm := h.calm
            mustTake := State.mustTakeStands_changeGrant h.mustTake hg hcls _ }

theorem State.Aside.foldl : ∀ (ps : List PortId) {s : State}, s.Aside → (ps.foldl State.standAsidePort s).Aside
  | [], _, h => h
  | p :: ps, _, h => State.Aside.foldl ps (h.standAsidePort p)

theorem State.Aside.standAside {s : State} (h : s.Aside) : s.standAside.Aside := State.Aside.foldl _ h

/-! ### The operations -/

/-- ResumeSound rests on the Arbiter alone. -/
theorem State.ResumeSound.of_arbiter {s t : State} (h : s.ResumeSound) (e : t.arbiter = s.arbiter) : t.ResumeSound := by
  unfold State.ResumeSound
  rw [e]
  exact h

theorem State.GrantsSound.stored {s : State} (h : s.GrantsSound) : ∀ p g, s.grant p = some g → s.store.isSome :=
  fun p g hg => (h p g hg).1

theorem State.ResumeSound.retire {s : State} (hg : s.GrantsSound) (h : s.ResumeSound) (p : PortId) (r : Reason) :
    (s.retire p r).ResumeSound := by
  obtain ⟨list, mustTake⟩ := State.resumeSound_iff.mp h
  cases hp : s.grant p with
  | none => rwa [State.retire_none hp]
  | some g =>
    have ended := list.retireHoldingSolar p r
    have figures := s.keepsFigures_retireHoldingSolar p r
    have stands (hs : (s.retireHoldingSolar p r).arbiter.anyMustTake = true) :
        (s.retireHoldingSolar p r).arbiter.MustTakeStands := (Arbiter.anyMustTake_iff _).mp hs
    rw [State.retire_of_grant hp]
    split
    · next hlast =>
      -- the last MUST_TAKE grant: solar-active goes with it
      cases hsolar : (s.retireHoldingSolar p r).arbiter.solarActive with
      | true => exact State.resumeSound_clearSolar (hg.retireHoldingSolar p r).stored ended hsolar
      | false =>
        rw [State.clearSolar_of_clear hsolar]
        exact State.resumeSound_iff.mpr ⟨ended, fun hs => by rw [hsolar] at hs; cases hs⟩
    · next hlast =>
      refine State.resumeSound_iff.mpr ⟨ended, fun hs => ?_⟩
      by_cases hm : g.isMustTake = true
      · exact stands (by simpa [hm] using hlast)
      · refine State.mustTakeStands_retireHoldingSolar (mustTake (figures.solarActive ▸ hs)) (fun k held hk hcls => ?_) r
        rw [hp] at hk
        cases hk
        exact hm (Grant.isMustTake_iff.mpr ⟨held, hcls⟩)

/-- Grants kept in their standing keep everything in agreement. -/
theorem State.ResumeSound.kept {s : State} (h : s.ResumeSound) {gs : PerPort (Option Grant)}
    (hk : KeptGrants s.arbiter.grants gs) : State.ResumeSound { s with arbiter := { s.arbiter with grants := gs } } := by
  obtain ⟨list, mustTake⟩ := State.resumeSound_iff.mp h
  -- a NORMAL grant of the new table came of one of the old, in the same standing
  have normal (p : PortId) (k : Grant) (m : NormalGrant) (hgk : gs.get p = some k) (hm : k.cls = .normal m) :
      ∃ g n, s.arbiter.grants.get p = some g ∧ g.cls = .normal n ∧ g.Kept k := by
    have rel := hk p
    rw [hgk] at rel
    cases hg : s.arbiter.grants.get p with
    | none => rw [hg] at rel; cases rel
    | some g =>
      rw [hg] at rel
      cases rel with
      | some kept =>
        obtain ⟨n, hn⟩ := kept.toRetuned.normal_of hm
        exact ⟨g, n, rfl, hn, kept⟩
  refine State.resumeSound_iff.mpr ⟨{ list with mem := fun p => ?_, stands := fun p k m hgk hm => ?_ }, fun hs => ?_⟩
  · rw [list.mem p]
    constructor
    · rintro ⟨g, n, hg, hn, hs⟩
      have rel := hk p
      rw [hg] at rel
      cases hgk : gs.get p with
      | none => rw [hgk] at rel; cases rel
      | some k =>
        rw [hgk] at rel
        cases rel with
        | some kept =>
          obtain ⟨m, hm, -⟩ := kept.normal n hn
          exact ⟨k, m, hgk, hm, (kept.standing n m hn hm).1.trans hs⟩
    · rintro ⟨k, m, hgk, hm, hs⟩
      obtain ⟨g, n, hg, hn, kept⟩ := normal p k m hgk hm
      exact ⟨g, n, hg, hn, (kept.standing n m hn hm).1.symm.trans hs⟩
  · obtain ⟨g, n, hg, hn, kept⟩ := normal p k m hgk hm
    obtain ⟨suspended, pending, run⟩ := kept.standing n m hn hm
    obtain ⟨mark, ranOut⟩ := list.stands p g n hg hn
    refine ⟨fun hp => ?_, fun hs => run.mpr (ranOut (suspended.symm.trans hs))⟩
    obtain ⟨hsolar, hcalm, hrun, hactive⟩ := mark (pending.symm.trans hp)
    exact ⟨hsolar, hcalm, mt run.mp hrun, suspended.trans hactive⟩
  · obtain ⟨p, g, held, hg, hcls⟩ := mustTake hs
    obtain ⟨k, hgk, rel⟩ := hk.retuned.grant' hg
    exact ⟨p, k, held, hgk, rel.mustTake held hcls⟩

/-- MUST_TAKE grants held or released. -/
theorem State.ResumeSound.held {s : State} (h : s.ResumeSound) (held overheat : Bool) :
    State.ResumeSound { s with arbiter := { s.arbiter.holdMustTake held with overheat := overheat } } := by
  obtain ⟨list, mustTake⟩ := State.resumeSound_iff.mp h
  have grant (p : PortId) : (s.arbiter.holdMustTake held).grants.get p = (s.arbiter.grants.get p).map (Grant.heldAs held) :=
    s.arbiter.grant_holdMustTake held p
  have normal (p : PortId) (k : Grant) (n : NormalGrant) (hk : (s.arbiter.holdMustTake held).grants.get p = some k)
      (hn : k.cls = .normal n) : ∃ g, s.arbiter.grants.get p = some g ∧ g.cls = .normal n := by
    rw [grant] at hk
    obtain ⟨g, hg, rfl⟩ := Option.map_eq_some_iff.mp hk
    refine ⟨g, hg, ?_⟩
    rw [g.heldAs_cls held] at hn
    revert hn
    cases g.cls with
    | mustTake _ => exact nofun
    | normal _ => exact id
    | hygiene => exact nofun
  refine State.resumeSound_iff.mpr ⟨
    { nodup := list.nodup, length := list.length, clear := list.clear, emergency := list.emergency, idle := list.idle
      mem := fun p => ?_, stands := fun p k n hk hn => ?_ }, fun hs => ?_⟩
  · refine (list.mem p).trans ?_
    constructor
    · rintro ⟨g, n, hg, hn, hs⟩
      refine ⟨g.heldAs held, n, (grant p).trans (by rw [hg, Option.map_some]), ?_, hs⟩
      rw [g.heldAs_cls held, hn]
    · rintro ⟨k, n, hk, hn, hs⟩
      obtain ⟨g, hg, hcls⟩ := normal p k n hk hn
      exact ⟨g, n, hg, hcls, hs⟩
  · obtain ⟨g, hg, hcls⟩ := normal p k n hk hn
    exact (list.stands p g n hg hcls).of_figures rfl rfl
  · obtain ⟨p, g, b, hg, hcls⟩ := mustTake hs
    refine ⟨p, g.heldAs held, held, (grant p).trans (by rw [hg, Option.map_some]), ?_⟩
    rw [g.heldAs_cls held, hcls]

theorem State.ResumeSound.testOverheat {s : State} (h : s.ResumeSound) : s.testOverheat.ResumeSound := by
  unfold State.testOverheat
  split
  · exact h
  · split
    · split
      · exact (h.held false false).of_arbiter rfl
      · exact h
    · split
      · refine ((h.retireAll .overheat fun p hp g held hg hcls => ?_).held true true).of_arbiter rfl
        obtain ⟨k, hk, other⟩ := Arbiter.mem_switchablePorts.mp hp
        rw [show s.arbiter.grants.get p = some g from hg] at hk
        cases hk
        exact other held hcls
      · exact h

theorem State.ResumeSound.compareComfort {s : State} (hg : s.GrantsSound) (h : s.ResumeSound) :
    s.compareComfort.ResumeSound := by
  obtain ⟨list, mustTake⟩ := State.resumeSound_iff.mp h
  unfold State.compareComfort
  split
  · exact h
  · split
    · exact h
    · split
      · split
        · exact h
        · exact State.resumeSound_popped
            (s := State.raise { s with arbiter := { s.arbiter with comfortEmergency := true } } .comfortLow)
            hg.stored list.mem list.idle mustTake
      · split
        · next hemergency =>
          -- with the emergency over the list is as it was, empty
          have left : State.ResumeSound { s with arbiter := { s.arbiter with comfortEmergency := false } } := by
            refine State.resumeSound_iff.mpr ⟨{ list with emergency := nofun, stands := fun p g n hgr hn => ?_ }, mustTake⟩
            obtain ⟨mark, ranOut⟩ := list.stands p g n hgr hn
            exact ⟨fun hm => ⟨(mark hm).1, rfl, (mark hm).2.2⟩, ranOut⟩
          unfold State.leaveEmergency
          dsimp only
          split
          · next hsolar =>
            have aside : State.Aside { s with arbiter := { s.arbiter with comfortEmergency := false } } :=
              { list := (State.resumeSound_iff.mp left).1, solar := hsolar, calm := rfl, mustTake := mustTake hsolar }
            exact aside.standAside.sound
          · exact left
        · exact h

theorem Grant.not_mustTake_of_hygiene {s : State} {p : PortId} (hp : p ∈ s.arbiter.hygienePorts) (g : Grant) (held : Bool)
    (hg : s.grant p = some g) : g.cls ≠ .mustTake held := by
  intro hcls
  obtain ⟨k, hk, hh⟩ := Arbiter.mem_hygienePorts.mp hp
  rw [show s.arbiter.grants.get p = some g from hg] at hk
  cases hk
  rw [hcls] at hh
  cases hh

theorem State.ResumeSound.hygieneLook {s : State} (h : s.ResumeSound) : s.hygieneLook.ResumeSound := by
  unfold State.hygieneLook
  split
  · exact h
  · split
    · split
      · exact h.of_arbiter rfl
      · exact h
    · split
      · exact h.of_arbiter rfl
      · exact h
    · split
      · refine State.ResumeSound.retireAll (s := State.raise { s with hygiene := { state := .clear, limit := none } }
          .hygieneDone) h .completed fun p hp => Grant.not_mustTake_of_hygiene (s := s) hp
      · exact h

theorem State.ResumeSound.productive {s : State} (h : s.ResumeSound) (hm : s.arbiter.MustTakeStands) :
    s.productiveDeposit.ResumeSound := by
  obtain ⟨list, -⟩ := State.resumeSound_iff.mp h
  unfold State.productiveDeposit
  split
  · exact h
  · next st _ =>
    dsimp only
    split
    · next hsolar =>
      refine State.resumeSound_iff.mpr ⟨?_, fun _ => hm⟩
      exact
        { nodup := list.nodup, length := list.length, mem := list.mem, clear := list.clear, emergency := list.emergency
          idle := ⟨fun _ => nofun, fun _ => hsolar⟩
          stands := fun p g n hg hn => (list.stands p g n hg hn).of_figures rfl rfl }
    · next hsolar =>
      have clear : s.arbiter.solarActive = false := by simpa using hsolar
      have empty := list.clear clear
      -- with solar-active clear nothing was listed or marked
      have set : Arbiter.ListSound 4
          { s.arbiter with solarActive := true, solarIdle := seconds st.cfg.solarIdle } :=
        { nodup := list.nodup, length := list.length, mem := list.mem, clear := nofun, emergency := list.emergency
          idle := ⟨fun _ => nofun, fun _ => rfl⟩
          stands := fun p g n hg hn => by
            obtain ⟨mark, ranOut⟩ := list.stands p g n hg hn
            exact ⟨fun hp => (by rw [(mark hp).1] at clear; cases clear), ranOut⟩ }
      split
      · exact State.resumeSound_iff.mpr ⟨set, fun _ => hm⟩
      · next hcalm =>
        have calm : s.arbiter.comfortEmergency = false := by simpa using hcalm
        have aside : State.Aside (State.raise { s with arbiter :=
            { s.arbiter with solarActive := true, solarIdle := seconds st.cfg.solarIdle } } .solarChanged) :=
          { list := set, solar := rfl, calm := calm, mustTake := hm }
        exact aside.standAside.sound

theorem State.changeGrant_changeGrant (s : State) (p : PortId) (f k : Grant → Grant) :
    (s.changeGrant p f).changeGrant p k = s.changeGrant p (k ∘ f) := by
  simp only [State.changeGrant, Arbiter.changeGrant, PerPort.get_set_same, PerPort.set_set, Option.map_map]

theorem State.ResumeSound.expireMinRun {s : State} (h : s.ResumeSound) (p : PortId) : (s.expireMinRun p).ResumeSound := by
  obtain ⟨list, mustTake⟩ := State.resumeSound_iff.mp h
  unfold State.expireMinRun
  split
  · exact h
  · next n hn =>
    obtain ⟨g, hg, hcls⟩ := State.bind_normal?_eq_some.mp hn
    obtain ⟨mark, ranOut⟩ := list.stands p g n hg hcls
    split
    · exact h
    · next hrun =>
      dsimp only
      split
      · next hmark =>
        obtain ⟨hsolar, hcalm, -, hactive⟩ := mark hmark
        have aside : s.Aside := { list := list, solar := hsolar, calm := hcalm, mustTake := mustTake hsolar }
        unfold State.suspend
        rw [State.changeGrant_changeGrant]
        refine (aside.pushed hg hcls hactive (m := { n with minRun := none, suspended := true, suspendPending := false }) ?_
          rfl rfl rfl).sound
        simp only [Function.comp_apply, Grant.changeNormal_of_normal hcls]
        rfl
      · next hmark =>
        have changed := congrArg Grant.cls (Grant.changeNormal_of_normal hcls fun n => { n with minRun := none })
        refine State.resumeSound_iff.mpr ⟨list.changed hg hcls changed rfl ⟨fun hm => absurd hm hmark, fun _ => rfl⟩,
          fun hs => State.mustTakeStands_changeGrant (mustTake hs) hg hcls _⟩

theorem State.ResumeSound.expireSolarIdle {s : State} (hg : s.GrantsSound) (h : s.ResumeSound) :
    s.expireSolarIdle.ResumeSound := by
  unfold State.expireSolarIdle
  split
  · cases hsolar : s.arbiter.solarActive with
    | true => exact State.resumeSound_clearSolar hg.stored (State.resumeSound_iff.mp h).1 hsolar
    | false => rwa [State.clearSolar_of_clear hsolar]
  · exact h

theorem State.ResumeSound.resetGrants {s : State} (h : s.ResumeSound) : s.resetGrants.ResumeSound := by
  have list := (State.resumeSound_iff.mp h).1.retireAll .resetGrants PortId.all
  have gone : ∀ p, (s.retireAll .resetGrants PortId.all).arbiter.grants.get p = none := fun p =>
    (State.grant_retireAll .resetGrants p PortId.all s).trans (if_pos (PortId.mem_all p))
  have noneSuspended : ∀ p, ¬(s.retireAll .resetGrants PortId.all).arbiter.SuspendedAt p :=
    fun p ⟨g, n, hg, _⟩ => nomatch (gone p).symm.trans hg
  have empty : (s.retireAll .resetGrants PortId.all).arbiter.resume = [] :=
    List.eq_nil_iff_forall_not_mem.mpr fun p hp => noneSuspended p ((list.mem p).mp hp)
  have ended : State.ResumeSound { s.retireAll .resetGrants PortId.all with arbiter :=
      { (s.retireAll .resetGrants PortId.all).arbiter with
        solarActive := false, solarIdle := none, comfortEmergency := false } } :=
    State.resumeSound_of_empty empty noneSuspended (fun p g n hg => nomatch (gone p).symm.trans hg)
      ⟨nofun, fun hi => absurd rfl hi⟩ nofun
  unfold State.resetGrants
  dsimp only
  refine State.ResumeSound.testOverheat (ended.of_arbiter ?_)
  rw [State.raiseIf_arbiter]

/-- Every operation of the Arbiter and the Monitor keeps the list in agreement with the grants. -/
theorem State.ResumeSound.operation {s t : State} (o : Operation s t) (hg : s.GrantsSound) (h : s.ResumeSound) :
    t.ResumeSound := by
  cases o with
  | raise | chosen => exact h
  | figures f m =>
    obtain ⟨list, mustTake⟩ := State.resumeSound_iff.mp h
    exact State.resumeSound_iff.mpr ⟨{ list with stands := fun p g n hgr hn => (list.stands p g n hgr hn).of_figures rfl rfl },
      mustTake⟩
  | keep gs hk => exact h.kept hk
  | retire p r hr => exact h.retire hg p r
  | retireNormal p r hn =>
    refine h.retireAll r (ps := [p]) fun q hq g held hgr hcls => ?_
    rw [List.mem_singleton.mp hq] at hgr
    obtain ⟨n, hn⟩ := hn g hgr
    rw [hcls] at hn
    cases hn
  | testOverheat => exact h.testOverheat
  | compareComfort => exact h.compareComfort hg
  | hygieneLook => exact h.hygieneLook
  | productive hm => exact h.productive hm
  | expireMinRun p => exact h.expireMinRun p
  | expireSolarIdle => exact h.expireSolarIdle hg
  | expireHygieneLimit =>
    unfold State.expireHygieneLimit
    split
    · exact h.retireAll .timedOut fun p hp => Grant.not_mustTake_of_hygiene hp
    · exact h
  | resetGrants => exact h.resetGrants

/-! ### Every step -/

theorem State.ResumeSound.granted {s : State} (h : s.ResumeSound) {p : PortId} {c : PortConfig} {cls : GrantClass}
    {supply : Nat} (free : s.grant p = none)
    (hn : ∀ n, cls = .normal n → n.suspended = false ∧ n.suspendPending = false) :
    (s.grantCharge p c cls supply).state.ResumeSound := by
  obtain ⟨list, mustTake⟩ := State.resumeSound_iff.mp h
  refine State.resumeSound_iff.mpr ⟨list.set list.nodup list.length (fun _ _ => Iff.rfl) ?_ list.clear list.emergency
    fun n hcls => ?_, fun hs => ?_⟩
  · rw [list.mem p]
    refine ⟨fun ⟨g, n, hg, _⟩ => (nomatch free.symm.trans hg), fun ⟨n, hcls, hs⟩ => ?_⟩
    rw [(hn n hcls).1] at hs
    cases hs
  · obtain ⟨active, unmarked⟩ := hn n hcls
    exact ⟨fun hm => (by rw [unmarked] at hm; cases hm), fun hs => by rw [active] at hs; cases hs⟩
  · obtain ⟨q, g, held, hg, hcls⟩ := mustTake hs
    have hq : q ≠ p := by
      rintro rfl
      exact nomatch free.symm.trans hg
    exact ⟨q, g, held, (PerPort.get_set_other _ _ hq).trans hg, hcls⟩

theorem State.ResumeSound.enterHoliday {s : State} (h : s.ResumeSound) (st : Store) : (s.enterHoliday st).ResumeSound := by
  have ended : State.ResumeSound
      (State.retireAll { s with store := some { st with holiday := true } } .mode s.arbiter.normalPorts) := by
    refine State.ResumeSound.retireAll (s := { s with store := some { st with holiday := true } }) h .mode
      fun p hp g held hg hcls => ?_
    obtain ⟨k, n, hk, hn⟩ := Arbiter.mem_normalPorts.mp hp
    rw [show s.arbiter.grants.get p = some g from hg] at hk
    cases hk
    rw [hcls] at hn
    cases hn
  obtain ⟨list, mustTake⟩ := State.resumeSound_iff.mp ended
  refine State.resumeSound_iff.mpr ⟨{ list with emergency := nofun, stands := fun p g n hg hn => ?_ }, mustTake⟩
  obtain ⟨mark, ranOut⟩ := list.stands p g n hg hn
  exact ⟨fun hm => ⟨(mark hm).1, rfl, (mark hm).2.2⟩, ranOut⟩

theorem State.resumeSound_initial {s : State} (e : s.arbiter = .initial) : s.ResumeSound := by
  have gone : ∀ p, s.arbiter.grants.get p = none := fun p => by rw [e]; exact PerPort.get_replicate none p
  refine State.resumeSound_of_empty (by rw [e]; rfl) (fun p ⟨g, n, hg, _⟩ => nomatch (gone p).symm.trans hg)
    (fun p g n hg => nomatch (gone p).symm.trans hg) ?_ ?_
  · rw [e]
    exact ⟨nofun, fun hi => absurd rfl hi⟩
  · rw [e]
    exact nofun

/-- The grants and the resume list together, as every step keeps them. -/
theorem State.ResumeSound.invariant : Invariant fun s => s.GrantsSound ∧ s.ResumeSound where
  act := by
    rintro r s t a ⟨hg, h⟩
    refine ⟨State.GrantsSound.invariant.act a hg, ?_⟩
    cases a with
    | operation o => exact h.operation o hg
    | link | scanner | corrections | probes | store | running => exact h
    | enterHoliday st => exact h.enterHoliday st
    | start => exact State.resumeSound_initial rfl
    | port p q =>
      obtain ⟨list, mustTake⟩ := State.resumeSound_iff.mp h
      exact State.resumeSound_iff.mpr
        ⟨{ list with stands := fun k g n hgr hn => (list.stands k g n hgr hn).of_figures rfl rfl }, mustTake⟩
    | grant p c st cls supply ha => exact h.granted ha.free fun n hn => (ha.normal n hn).2.2.2.2
    | hygieneGrant p c st supply limit ha =>
      exact State.ResumeSound.granted (s := { s with hygiene := { state := .inProgress, limit := some limit } }) h ha.free
        nofun
  tick s h := by
    obtain ⟨hg, h⟩ := h
    refine ⟨State.GrantsSound.invariant.tick s hg, ?_⟩
    obtain ⟨list, mustTake⟩ := State.resumeSound_iff.mp (h.kept (keptGrants_pass s.arbiter.grants))
    refine State.resumeSound_iff.mpr ⟨{ list with idle := ?_, stands := fun p g n hgr hn => ?_ }, mustTake⟩
    · exact (list.stands p g n hgr hn).of_figures rfl rfl
    · exact list.idle.trans (not_congr Timer.pass_eq_none.symm)
  frame _ _ _ _ h := h
  notices _ _ _ h := h
  reset s l := ⟨State.GrantsSound.invariant.reset s l, State.resumeSound_initial rfl⟩

/-- Settles O55: the list follows the grants through every end, push, pop and resumption, and solar-active goes with its
last MUST_TAKE grant. -/
theorem everyStepKeepsTheResumeList : Obligations.EveryStepKeepsTheResumeList :=
  fun _ _ hg hs he => (State.ResumeSound.invariant.step ⟨hg, hs⟩ he).2

end Sys2Proof.Machine
end

section
/-!
PROOF. The step itself: which command it runs, and what a crystal period counts; what reset leaves and that it meets every
invariant; and what no command but a few may do: change the water (R21, R177), the bit rate (R161) or the flags and the mask
(R181).
-/

namespace Sys2Proof.Machine

open Relation (ReflTransGen)

/-! ### The step -/

/-- Settles O1. -/
theorem stepRunsTheFrontCommand : Obligations.StepRunsTheFrontCommand := by
  intro c s rest h
  simp only [step, h]

theorem mem_dueIf {c : Bool} {i j : Instr} : i ∈ dueIf c j ↔ c = true ∧ i = j := by
  cases c <;> simp [dueIf]

theorem Timer.out_iff {t : Timer} : Timer.out t = true ↔ t = some 0 := decide_eq_true_iff

theorem Link.mem_due {l : Link} {i : Instr} : i ∈ l.due ↔
    (l.resetPending = some .grants ∧ i = .resetGrantsTakesEffect)
      ∨ (l.resetPending = some .full ∧ i = .resetFullTakesEffect)
      ∨ (l.resetPending = none ∧ ∃ m rest, l.queue = m :: rest ∧ m.command = some i) := by
  unfold Link.due
  cases l.resetPending with
  | some scope => cases scope <;> simp
  | none =>
    cases l.queue with
    | nil => simp
    | cons m rest => simp [Option.mem_toList]

theorem Store.mem_due {st : Store} {i : Instr} : i ∈ st.due ↔
    (st.lossTimer = 0 ∧ i = .lossIntervalExpiry) ∨ (st.minuteTimer = 0 ∧ i = .hygieneMinuteExpiry) := by
  simp only [Store.due, List.mem_append, mem_dueIf, decide_eq_true_iff]

theorem Grant.mem_due {p : PortId} {g : Grant} {i : Instr} : i ∈ g.due p ↔
    (g.liveness = 0 ∧ i = .livenessExpiry p)
      ∨ ∃ n, g.cls = .normal n ∧ n.minRun = some 0 ∧ i = .minRunExpiry p := by
  simp only [Grant.due, List.mem_append, mem_dueIf, decide_eq_true_iff]
  refine or_congr Iff.rfl ?_
  cases hn : g.normal? with
  | none =>
    have other := Grant.normal?_eq_none.mp hn
    simp only [Option.map_none, Option.getD_none, Bool.false_eq_true, false_and, false_iff]
    rintro ⟨n, hcls, -⟩
    exact other n hcls
  | some n =>
    have normal := Grant.normal?_eq_some.mp hn
    simp only [Option.map_some, Option.getD_some, Timer.out_iff]
    constructor
    · rintro ⟨hrun, hi⟩
      exact ⟨n, normal, hrun, hi⟩
    · rintro ⟨m, hm, hrun, hi⟩
      rw [normal] at hm
      cases hm
      exact ⟨hrun, hi⟩

/-- The commands of an optional part's due events. -/
theorem mem_getD_map {α : Type} {o : Option α} {f : α → List Instr} {i : Instr} :
    i ∈ (o.map f).getD [] ↔ ∃ a, o = some a ∧ i ∈ f a := by
  cases o <;> simp

theorem mem_flatten_all {α : Type} {l : List α} (hl : ∀ a, a ∈ l) {f : α → List Instr} {i : Instr} :
    i ∈ (l.map f).flatten ↔ ∃ a, i ∈ f a := by
  simp [List.mem_flatten, hl]

/-- What is due, event by event (R18, R33, R169, R174). -/
theorem State.mem_due {s : State} {i : Instr} : i ∈ s.due ↔
    (s.link.resetPending = some .grants ∧ i = .resetGrantsTakesEffect)
      ∨ (s.link.resetPending = some .full ∧ i = .resetFullTakesEffect)
      ∨ (s.link.resetPending = none ∧ ∃ m rest, s.link.queue = m :: rest ∧ m.command = some i)
      ∨ (s.link.stall = some 0 ∧ i = .stallExpiry)
      ∨ (s.corrections ≠ [] ∧ i = .probeCorrection)
      ∨ (∃ st, s.store = some st
          ∧ (st.lossTimer = 0 ∧ i = .lossIntervalExpiry ∨ st.minuteTimer = 0 ∧ i = .hygieneMinuteExpiry))
      ∨ (∃ p g, s.grant p = some g
          ∧ (g.liveness = 0 ∧ i = .livenessExpiry p
            ∨ ∃ n, g.cls = .normal n ∧ n.minRun = some 0 ∧ i = .minRunExpiry p))
      ∨ (s.arbiter.solarIdle = some 0 ∧ i = .solarIdleExpiry)
      ∨ (s.hygiene.limit = some 0 ∧ i = .hygieneTimeLimitExpiry)
      ∨ (s.scanner.interval = some 0 ∧ i = .scanIntervalExpiry)
      ∨ (∃ c, s.scanner.conversion = some c ∧ c.timeout = 0 ∧ i = .conversionTimeout)
      ∨ (∃ n, (s.probes.get n).holdTimer = some 0 ∧ i = .lockoutHoldExpiry n) := by
  have stored : i ∈ (s.store.map Store.due).getD [] ↔ ∃ st, s.store = some st
      ∧ (st.lossTimer = 0 ∧ i = .lossIntervalExpiry ∨ st.minuteTimer = 0 ∧ i = .hygieneMinuteExpiry) := by
    simp only [mem_getD_map, Store.mem_due]
  have granted : i ∈ (PortId.all.map fun p => ((s.grant p).map (Grant.due p)).getD []).flatten ↔
      ∃ p g, s.grant p = some g ∧ (g.liveness = 0 ∧ i = .livenessExpiry p
        ∨ ∃ n, g.cls = .normal n ∧ n.minRun = some 0 ∧ i = .minRunExpiry p) := by
    simp only [mem_flatten_all PortId.mem_all, mem_getD_map, Grant.mem_due]
  have converted : ((s.scanner.conversion.map fun c => decide (c.timeout = 0)).getD false = true ∧ i = .conversionTimeout)
      ↔ ∃ c, s.scanner.conversion = some c ∧ c.timeout = 0 ∧ i = .conversionTimeout := by
    cases s.scanner.conversion <;> simp
  have holds : i ∈ (ProbeId.all.map fun n => dueIf (Timer.out (s.probes.get n).holdTimer) (.lockoutHoldExpiry n)).flatten
      ↔ ∃ n, (s.probes.get n).holdTimer = some 0 ∧ i = .lockoutHoldExpiry n := by
    simp only [mem_flatten_all ProbeId.mem_all, mem_dueIf, Timer.out_iff]
  have waits : (!s.corrections.isEmpty) = true ↔ s.corrections ≠ [] := by cases s.corrections <;> simp
  simp only [State.due, List.mem_append, Link.mem_due, mem_dueIf, Timer.out_iff, stored, granted, converted, holds, waits,
    or_assoc]

theorem step_idle {s : State} (h : s.pending = []) : step s = s.idle := by
  simp only [step, h]

/-- Settles O2: the idle step looks at the events due, and the list of them is made part by part. -/
theorem emptyQueueRunsDueEventOrTicks : Obligations.EmptyQueueRunsDueEventOrTicks := by
  refine ⟨fun s hs => ⟨fun hlow => ?held, fun hrun => ⟨fun hd => ?tick, fun i hd => ?one, fun i j rest hd => ?several⟩⟩,
    fun s i => State.mem_due⟩
  case held =>
    rw [step_idle hs]
    exact if_pos hlow
  case tick =>
    rw [step_idle hs]
    simp only [State.idle, hrun, Bool.false_eq_true, if_false, hd]
  case one =>
    rw [step_idle hs]
    simp only [State.idle, hrun, Bool.false_eq_true, if_false, hd]
  case several =>
    refine ⟨(i :: j :: rest).getD (Config.eventPick s.choices % (i :: j :: rest).length) i, ?_, ?_⟩
    · have lt := Nat.mod_lt (Config.eventPick s.choices) (y := (i :: j :: rest).length) (Nat.zero_lt_succ _)
      rw [hd, List.getD_eq_getElem _ _ lt]
      exact List.getElem_mem lt
    · rw [step_idle hs]
      simp only [State.idle, hrun, Bool.false_eq_true, if_false, hd]
      rfl

/-- A crystal period at a grant (R18). -/
theorem Grant.pass_fields (g : Grant) : g.pass.liveness = g.liveness - 1 ∧ g.pass.handle = g.handle
    ∧ g.pass.delivered = g.delivered ∧ g.pass.declaredSupply = g.declaredSupply
    ∧ (∀ held, g.cls = .mustTake held → g.pass.cls = .mustTake held) ∧ (g.cls = .hygiene → g.pass.cls = .hygiene)
    ∧ (∀ n, g.cls = .normal n → g.pass.cls = .normal { n with minRun := n.minRun.map (· - 1) }) := by
  by_cases hn : ∃ n, g.cls = .normal n
  · obtain ⟨n, hn⟩ := hn
    have passed : g.pass = { g with liveness := g.liveness - 1, cls := .normal { n with minRun := Timer.pass n.minRun } } :=
      Grant.changeNormal_of_normal (g := { g with liveness := g.liveness - 1 }) hn _
    rw [passed, hn]
    exact ⟨rfl, rfl, rfl, rfl, nofun, nofun, fun m hm => by cases hm; rfl⟩
  · have other : ∀ n, g.cls ≠ .normal n := fun n h => hn ⟨n, h⟩
    have passed : g.pass = { g with liveness := g.liveness - 1 } :=
      Grant.changeNormal_of_other (g := { g with liveness := g.liveness - 1 }) other _
    rw [passed]
    exact ⟨rfl, rfl, rfl, rfl, fun _ h => h, fun h => h, fun n h => absurd h (other n)⟩

/-- Settles O3: each block's timers are counted where they stand, and a grant's with its record. -/
theorem crystalPeriodCountsTimersAlone : Obligations.CrystalPeriodCountsTimersAlone := by
  intro s
  have grant : ∀ p, s.tick.grant p = (s.grant p).map Grant.pass := fun p => PerPort.get_map _ _ _
  refine ⟨rfl, rfl, fun p hp => ?_, fun p g hg => ⟨g.pass, ?_, g.pass_fields⟩, fun n => PerProbe.get_map _ _ n⟩
  · rw [grant, hp, Option.map_none]
  · rw [grant, hg, Option.map_some]

end Sys2Proof.Machine
end

section
/-!
PROOF. The resets: what POWER_ON, the RESET pin and a RESET of scope FULL leave (R39, R174, R180), that it meets every
invariant, and what no command but a few may do: change the water (R21, R177), the bit rate (R161) or the flags and the mask
(R181).
-/

namespace Sys2Proof.Machine

open Relation (ReflTransGen)

/-! ### What a reset leaves -/

/-- Settles O6. -/
theorem resetLeavesThePowerOnState : Obligations.ResetLeavesThePowerOnState :=
  ⟨rfl, rfl, rfl, fun _ => ⟨PerPort.get_replicate _ _, PerPort.get_replicate _ _⟩, rfl, rfl, rfl, rfl, rfl, rfl, rfl, rfl, rfl,
    fun _ => PerProbe.get_replicate _ _, rfl, rfl, rfl, rfl, rfl⟩

theorem Probe.initial_sound : Probe.initial.Sound :=
  ⟨Nat.zero_le _, Nat.zero_le _, ⟨nofun, nofun⟩, fun h => absurd rfl h, fun _ _ => rfl, nofun, fun _ => ⟨rfl, rfl⟩⟩

/-- The machine after power-on is the reset of any state, but for the pins, the waiting commands and the count of choices. -/
theorem State.reset_eq : State.reset = { State.reset.powerOnBlocks with link := State.reset.link } := rfl

/-- Settles O60: what holds of a reset of every block holds of the state after power-on. -/
theorem whatStepsKeepHoldsAtReset : Obligations.WhatStepsKeepHoldsAtReset := by
  refine ⟨?attn, State.reset_eq ▸ State.StoreSound.invariant.reset _ _, State.reset_eq ▸ State.GrantsSound.invariant.reset _ _,
    State.resumeSound_initial rfl, State.reset_eq ▸ State.OverheatSound.invariant.reset _ _,
    State.reset_eq ▸ State.HolidaySound.invariant.reset _ _, State.reset_eq ▸ State.HygieneSound.invariant.reset _ _,
    fun n => ?probe, ⟨?link, nofun⟩⟩
  case attn => exact State.attnSound_iff.mpr (State.Evaluated.invariant.reset State.reset State.reset.link)
  case probe =>
    rw [show State.reset.probes.get n = Probe.initial from PerProbe.get_replicate _ _]
    exact Probe.initial_sound
  case link => exact ⟨Nat.zero_le _, nofun, trivial, nofun, nofun⟩

/-! ### POWER_ON and the RESET pin -/

/-- Under the RESET pin no command but power and the pins has an effect (log entry 18). -/
theorem exec_held {c : Instr} {s : State} (h : s.pins.resetLow = true) (h1 : c ≠ .powerOn) (h2 : c ≠ .resetPinLow)
    (h3 : c ≠ .resetPinRelease) (h4 : ∀ r1 r0, c ≠ .rateStrapChange r1 r0) : exec c s = .next s := by
  cases hm : c.message with
  | some m => rw [exec_request hm, State.request_held h]
  | none =>
    have held (f : State → State) : Host.Outcome.next (s.whenRunning f) = (.next s : Result) :=
      congrArg _ (State.whenRunning_of_held h f)
    cases c with
    | powerOn => exact absurd rfl h1
    | resetPinLow => exact absurd rfl h2
    | resetPinRelease => exact absurd rfl h3
    | rateStrapChange r1 r0 => exact absurd rfl (h4 r1 r0)
    | rxByte | rxFramingFault | stallExpiry | resetGrantsTakesEffect | resetFullTakesEffect | lossIntervalExpiry
    | hygieneMinuteExpiry | livenessExpiry | minRunExpiry | solarIdleExpiry | hygieneTimeLimitExpiry | scanIntervalExpiry
    | conversionTimeout | probeReply | probeCorrection | lockoutHoldExpiry => exact held _
    | _ => cases hm

theorem exec_resetPinRelease_of_low {s : State} (h : s.pins.resetLow = true) : exec .resetPinRelease s =
    .next (State.readStraps { s.powerOn with pins := { s.pins with resetLow := false } }) :=
  congrArg Host.Outcome.next (if_pos h)

theorem exec_resetPinRelease_of_high {s : State} (h : s.pins.resetLow = false) : exec .resetPinRelease s = .next s :=
  congrArg Host.Outcome.next (if_neg (by rw [h]; exact Bool.false_ne_true))

/-- Settles O7: each of the three is the power-on state of every block, with the pins and the bit rate it leaves. -/
theorem powerOnAndResetPinResetEveryBlock : Obligations.PowerOnAndResetPinResetEveryBlock := by
  refine ⟨fun c s h h1 h2 h3 h4 => exec_held h h1 h2 h3 h4, fun s => ⟨rfl, rfl, fun h => ?_, exec_resetPinRelease_of_high⟩⟩
  rw [exec_resetPinRelease_of_low h]
  rfl

/-! ### The RESET request -/

theorem exec_reset_of_reply {s t u : State} {p0 p1 : Byte} {status : Status} (h : s.Taking ⟨14, 0, .short p0 p1⟩ t)
    (hr : State.resetRequest p0 t = u.answer status) :
    exec (.reset 0 p0 p1) s = .next (u.sent (shortAnswer 14 0 (BitVec.ofNat 8 status.code) 0)) := by
  have unfolded : exec (.reset 0 p0 p1) s = .next (s.shortRequest 14 0 p0 p1 (State.resetRequest p0)) := rfl
  rw [unfolded, State.shortRequest_supervisor 14 (by decide) h, hr]
  rfl

/-- The Link Controller when a RESET takes effect, by the framing it finds (R174). -/
theorem Link.resetTakesEffect_eq (l : Link) : l.resetTakesEffect =
    { l with
      queue := [], resetPending := none
      framing := match l.framing with
        | .header _ => .hunt | .payload _ _ _ _ => .hunt | .idle => .idle | .hunt => .idle
      stall := match l.framing with
        | .header _ => l.stall | .payload _ _ _ _ => l.stall | .idle => none | .hunt => none } := by
  obtain ⟨framing, stall, queue, resetPending, txd, rate⟩ := l
  cases framing <;> rfl

theorem exec_resetFullTakesEffect {s : State} (h : s.pins.resetLow = false) :
    exec .resetFullTakesEffect s
      = .next (if s.link.resetPending = some .full then s.fullResetTakesEffect else s) :=
  congrArg Host.Outcome.next (State.whenRunning_of_running h _)

theorem exec_resetGrantsTakesEffect {s : State} (h : s.pins.resetLow = false) :
    exec .resetGrantsTakesEffect s
      = .next (if s.link.resetPending = some .grants then s.grantsResetTakesEffect else s) :=
  congrArg Host.Outcome.next (State.whenRunning_of_running h _)

/-- Settles O9: the request sets what waits to take effect, and the effect of a FULL one is the power-on state with the
link's own. -/
theorem resetRequestAndFullReset : Obligations.ResetRequestAndFullReset := by
  refine ⟨fun s t p0 p1 h => ⟨fun h0 => ?grants, fun h1 => ?full, fun hr => ?range⟩, fun s hrun hfull => ?effect,
    fun s hn => ?noFull, fun s hn => ?noGrants⟩
  case grants => exact exec_reset_of_reply h (if_pos h0)
  case full => exact exec_reset_of_reply h ((if_neg (by rw [h1]; decide)).trans (if_pos h1))
  case range =>
    have h0 : p0 ≠ 0 := fun e => by rw [e] at hr; exact absurd hr (by decide)
    have h1 : p0 ≠ 1 := fun e => by rw [e] at hr; exact absurd hr (by decide)
    exact exec_reset_of_reply h ((if_neg h0).trans (if_neg h1))
  case effect =>
    rw [exec_resetFullTakesEffect hrun, if_pos hfull, State.fullResetTakesEffect, Link.resetTakesEffect_eq]
    rfl
  case noFull =>
    cases hlow : s.pins.resetLow with
    | true => exact exec_held hlow nofun nofun nofun nofun
    | false => rw [exec_resetFullTakesEffect hlow, if_neg hn]
  case noGrants =>
    cases hlow : s.pins.resetLow with
    | true => exact exec_held hlow nofun nofun nofun nofun
    | false => rw [exec_resetGrantsTakesEffect hlow, if_neg hn]

/-! ### What only a few commands do -/

/-- A request relates the states before and after as its parts do: the link's own changes, a flag set, the owner's work. -/
theorem State.request_rel {R : State → State → Prop} (refl : ∀ s, R s s) (trans : ∀ {s t u}, R s t → R t u → R s u)
    (link : ∀ (s : State) (l : Link), l.rate = s.link.rate → R s { s with link := l })
    (raise : ∀ s : State, R s (s.raise .linkError)) {owner : State → Reply} (own : ∀ t, R t (owner t).state) (s : State)
    (m : Message) : R s (s.request m owner) := by
  rcases s.request_cases m owner with same | offered | ⟨t, taking, handled⟩
  · rw [same]
    exact refl s
  · rw [offered, State.offer]
    split
    · exact link s _ rfl
    · exact raise s
  · rw [handled]
    have taken : R s t := by
      obtain ⟨-, -, ⟨-, rfl⟩ | ⟨rest, -, rfl⟩⟩ := taking
      · exact refl _
      · exact link s _ rfl
    rcases t.handle_cases m owner with ⟨a, sent⟩ | ⟨a, sent⟩ <;> rw [sent]
    · exact trans taken (link t _ rfl)
    · exact trans (trans taken (own t)) (link _ _ rfl)

/-- An act that does not reach the water leaves the store as it was. -/
theorem Act.store_of_dry {r : Reach} (hw : r.water = false) {s t : State} (a : Act r s t) : t.store = s.store := by
  cases a with
  | operation o => exact o.moves.touches.fields.1
  | link | scanner | corrections | probes | port | grant | hygieneGrant => rfl
  | store st st' hr => rw [hw] at hr; cases hr
  | running st hr => rw [hw] at hr; cases hr
  | enterHoliday st hr => rw [hw] at hr; cases hr
  | start cfg holiday sc hr => rw [hw] at hr; cases hr

theorem Acts.store_of_dry {r : Reach} (hw : r.water = false) {s t : State} (h : Acts r s t) : t.store = s.store := by
  induction h with
  | refl => rfl
  | tail _ a ih => exact (a.store_of_dry hw).trans ih

/-- A command that does not reach the water leaves the store as it was. -/
theorem exec_store_of_dry {c : Instr} {s t : State} (he : exec c s = .next t) (ha : c.isApart = false)
    (hw : c.water = false) : t.store = s.store :=
  (exec_acts ha he).store_of_dry hw

/-- Settles O51: a command that is a row of acts out of the water's reach leaves the store, and so do the requests for the
Notice Register and the straps. -/
theorem onlyModelOperationsChangeTheWater : Obligations.OnlyModelOperationsChangeTheWater := by
  intro c s t he hc
  have register (m : Message) {owner : State → Reply} (own : ∀ u : State, (owner u).state.store = u.store) :
      (s.request m owner).store = s.store :=
    State.request_rel (R := fun s t => t.store = s.store) (fun _ => rfl) (fun h k => k.trans h) (fun _ _ _ => rfl)
      (fun _ => rfl) own s m
  cases c with
  | powerOn | resetPinLow | resetPinRelease | resetGrantsTakesEffect | resetFullTakesEffect | setMode | setMains
  | setAmbient | draw | reseed | configureStore | deposit | lossIntervalExpiry | hygieneMinuteExpiry | probeCorrection
  | probeReply => exact hc.elim
  | rateStrapChange => cases he; rfl
  | notices ch p0 p1 => cases he; exact register _ fun _ => rfl
  | noticeEnable ch p0 p1 => cases he; exact register _ fun _ => rfl
  | _ => exact exec_store_of_dry he rfl rfl

/-- No act reads the straps. -/
theorem Act.rate {r : Reach} {s t : State} (a : Act r s t) : t.link.rate = s.link.rate := by
  cases a with
  | operation o => rw [o.moves.touches.fields.2.2.2.2.1]
  | link l _ hrate => exact hrate
  | enterHoliday st =>
    exact congrArg Link.rate
      (State.touches_retireAll { s with store := some { st with holiday := true } } .mode s.arbiter.normalPorts).fields.2.2.2.2.1
  | scanner | corrections | probes | port | grant | hygieneGrant | store | running | start => rfl

theorem Acts.rate {r : Reach} {s t : State} (h : Acts r s t) : t.link.rate = s.link.rate := by
  induction h with
  | refl => rfl
  | tail _ a ih => exact a.rate.trans ih

/-- Settles O8: no act reads the straps, and of the commands apart only POWER_ON and the pin's release do. -/
theorem bitRateIsReadAtPowerOnAndReleaseAlone : Obligations.BitRateIsReadAtPowerOnAndReleaseAlone := by
  refine ⟨fun c s t he h1 h2 => ?_, fun s => ⟨_, rfl, rfl⟩, fun s h => ⟨_, exec_resetPinRelease_of_low h, rfl⟩,
    fun s h => exec_resetPinRelease_of_high h, fun _ _ _ => rfl, rfl, rfl, rfl, rfl⟩
  have register (m : Message) {owner : State → Reply} (own : ∀ u : State, (owner u).state.link.rate = u.link.rate) :
      (s.request m owner).link.rate = s.link.rate :=
    State.request_rel (R := fun s t => t.link.rate = s.link.rate) (fun _ => rfl) (fun h k => k.trans h) (fun _ _ h => h)
      (fun _ => rfl) own s m
  cases ha : c.isApart with
  | false => exact (exec_acts ha he).rate
  | true =>
    cases c with
    | powerOn => exact absurd rfl h1
    | resetPinRelease => exact absurd rfl h2
    | resetPinLow => cases he; rfl
    | rateStrapChange => cases he; rfl
    | resetFullTakesEffect =>
      cases he
      unfold State.whenRunning
      split
      · rfl
      · dsimp only
        split
        · exact Link.resetTakesEffect_rate _
        · rfl
    | notices ch p0 p1 => cases he; exact register _ fun _ => rfl
    | noticeEnable ch p0 p1 => cases he; exact register _ fun _ => rfl
    | _ => cases ha

/-! ### Flags -/

/-- Flags set stay set and the mask stays. -/
structure State.KeepsFlags (s t : State) : Prop where
  flags : ∀ i, s.notices.flags.getLsbD i = true → t.notices.flags.getLsbD i = true
  mask : t.notices.mask = s.notices.mask

theorem State.KeepsFlags.of_same {s t : State} (h : t.notices = s.notices) : s.KeepsFlags t :=
  ⟨fun i hi => by rw [h]; exact hi, by rw [h]⟩

theorem State.KeepsFlags.trans {s t u : State} (h : s.KeepsFlags t) (k : t.KeepsFlags u) : s.KeepsFlags u :=
  ⟨fun i hi => k.flags i (h.flags i hi), k.mask.trans h.mask⟩

theorem State.TouchesGrants.keepsFlags {s t : State} (h : s.TouchesGrants t) : s.KeepsFlags t := ⟨h.2.2, h.2.1⟩

theorem Act.keepsFlags {r : Reach} {s t : State} (a : Act r s t) : s.KeepsFlags t := by
  cases a with
  | operation o => exact o.moves.touches.keepsFlags
  | enterHoliday st =>
    obtain ⟨-, mask, flags⟩ :=
      State.touches_retireAll { s with store := some { st with holiday := true } } .mode s.arbiter.normalPorts
    exact ⟨flags, mask⟩
  | link | scanner | corrections | probes | port | grant | hygieneGrant | store | running | start => exact .of_same rfl

theorem Acts.keepsFlags {r : Reach} {s t : State} (h : Acts r s t) : s.KeepsFlags t := by
  induction h with
  | refl => exact .of_same rfl
  | tail _ a ih => exact ih.trans a.keepsFlags

/-- Settles O39: no act clears a flag or changes the mask; NOTICES leaves the mask and NOTICE_ENABLE the flags. -/
theorem flagsFallOnlyByNoticesAndReset : Obligations.FlagsFallOnlyByNoticesAndReset := by
  intro c s t he h1 h2 h3 h4
  cases ha : c.isApart with
  | false =>
    have kept := (exec_acts ha he).keepsFlags
    exact ⟨fun _ => kept.flags, fun _ => kept.mask⟩
  | true =>
    cases c with
    | powerOn => exact absurd rfl h1
    | resetPinLow => exact absurd rfl h2
    | resetPinRelease => exact absurd rfl h3
    | resetFullTakesEffect => exact absurd rfl h4
    | rateStrapChange => cases he; exact ⟨fun _ _ h => h, fun _ => rfl⟩
    | notices ch p0 p1 =>
      cases he
      refine ⟨fun h => absurd rfl (h ch p0 p1), fun _ => ?_⟩
      exact State.request_rel (R := fun s t => t.notices.mask = s.notices.mask) (fun _ => rfl) (fun h k => k.trans h)
        (fun _ _ _ => rfl) (fun _ => rfl) (owner := State.noticesRequest p0 p1) (fun _ => rfl) s _
    | noticeEnable ch p0 p1 =>
      cases he
      refine ⟨fun _ => ?_, fun h => absurd rfl (h ch p0 p1)⟩
      exact State.request_rel
        (R := fun s t => ∀ i, s.notices.flags.getLsbD i = true → t.notices.flags.getLsbD i = true)
        (fun _ _ h => h) (fun h k i hi => k i (h i hi)) (fun _ _ _ _ h => h)
        (fun s => (s.touches_raise .linkError).2.2) (owner := State.noticeEnableRequest p0 p1) (fun _ _ h => h) s _
    | _ => cases ha

end Sys2Proof.Machine
end

section
/-!
PROOF. The ends of several grants at once, whole: last ends, the resume list, the hygiene run and the notices; and from them
the overheat tests (R124 to R126) and a RESET of scope GRANTS in effect (R111, R174).
-/

namespace Sys2Proof.Machine

/-! ### Flags set twice -/

theorem NoticeRegister.raise_raise (r : NoticeRegister) (n : Notice) : (r.raise n).raise n = r.raise n := by
  simp only [NoticeRegister.raise, NoticeRegister.reevaluate, BitVec.or_assoc, BitVec.or_self]

theorem NoticeRegister.raise_comm (r : NoticeRegister) (n m : Notice) : (r.raise n).raise m = (r.raise m).raise n := by
  simp only [NoticeRegister.raise, NoticeRegister.reevaluate, BitVec.or_assoc, BitVec.or_comm n.word m.word]

/-! ### The ends of several grants -/

/-- The last ends after the ends of some ports' grants (R81). -/
theorem State.port_retireAll (r : Reason) (q : PortId) : ∀ (ps : List PortId) (s : State),
    (s.retireAll r ps).port q = match s.grant q with
      | some g => if q ∈ ps then { s.port q with lastEnd := some { handle := g.handle, reason := r } } else s.port q
      | none => s.port q
  | [], s => by cases s.grant q <;> rfl
  | p :: ps, s => by
    have rest := State.port_retireAll r q ps (s.retireHoldingSolar p r)
    rw [State.grant_retireHoldingSolar] at rest
    refine rest.trans ?_
    by_cases hq : q = p
    · subst hq
      cases hg : s.grant q with
      | none => simp [State.retireHoldingSolar_none hg]
      | some g => simp [State.port_retireHoldingSolar hg]
    · have same : (s.retireHoldingSolar p r).port q = s.port q := by
        cases hp : s.grant p with
        | none => rw [State.retireHoldingSolar_none hp]
        | some g => rw [State.port_retireHoldingSolar hp, if_neg hq]
      rw [if_neg hq, same]
      cases s.grant q with
      | none => rfl
      | some g => simp [hq]

theorem State.port_retireAll_of_grant {s : State} {q : PortId} {g : Grant} (hg : s.grant q = some g) (r : Reason)
    {ps : List PortId} (hq : q ∈ ps) :
    (s.retireAll r ps).port q = { s.port q with lastEnd := some { handle := g.handle, reason := r } } := by
  rw [State.port_retireAll, hg]
  exact if_pos hq

theorem State.port_retireAll_of_none {s : State} {q : PortId} (hg : s.grant q = none) (r : Reason) (ps : List PortId) :
    (s.retireAll r ps).port q = s.port q := by
  rw [State.port_retireAll, hg]

theorem State.port_retireAll_other (s : State) {q : PortId} {ps : List PortId} (hq : q ∉ ps) (r : Reason) :
    (s.retireAll r ps).port q = s.port q := by
  rw [State.port_retireAll]
  cases s.grant q with
  | none => rfl
  | some g => exact if_neg hq

/-- The resume list after the ends of some ports' grants (R101). -/
theorem State.mem_resume_retireAll (r : Reason) (q : PortId) : ∀ (ps : List PortId) (s : State),
    q ∈ (s.retireAll r ps).arbiter.resume ↔ q ∈ s.arbiter.resume ∧ ¬(q ∈ ps ∧ s.grant q ≠ none)
  | [], s => by simp [State.retireAll]
  | p :: ps, s => by
    refine (State.mem_resume_retireAll r q ps (s.retireHoldingSolar p r)).trans ?_
    rw [State.grant_retireHoldingSolar]
    cases hg : s.grant p with
    | none =>
      rw [State.retireHoldingSolar_none hg]
      by_cases hq : q = p <;> simp [hq, hg]
    | some g =>
      rw [State.resume_retireHoldingSolar hg]
      by_cases hq : q = p <;> simp [hq, hg]

/-- Some port of a list holds a grant. -/
def State.EndsIn (s : State) (ps : List PortId) : Prop := ∃ p ∈ ps, s.grant p ≠ none

/-- A run in progress loses its grant with the ends of a list of ports. -/
def State.FailsIn (s : State) (ps : List PortId) : Prop := s.hygiene.state = .inProgress ∧ ∃ p ∈ ps, s.HygieneAt p

open Classical in
/-- The run and the notices after ends that set GRANT_ENDED and no more (R102, R137). -/
theorem State.retireAll_notices {r : Reason} (hr : r.asPlanned = false) (ha : r ≠ .abandoned) :
    ∀ (ps : List PortId) (s : State),
      (s.retireAll r ps).hygiene = (if s.FailsIn ps then { state := .due, limit := none } else s.hygiene)
        ∧ (s.retireAll r ps).notices =
          (let n := if s.EndsIn ps then s.notices.raise .grantEnded else s.notices
           if s.FailsIn ps then n.raise .hygieneFailed else n)
  | [], s => by
    have ends : ¬s.EndsIn [] := by simp [State.EndsIn]
    have fails : ¬s.FailsIn [] := by simp [State.FailsIn]
    simp only [if_neg ends, if_neg fails]
    exact ⟨rfl, rfl⟩
  | p :: ps, s => by
    obtain ⟨hygiene, notices⟩ := State.retireAll_notices hr ha ps (s.retireHoldingSolar p r)
    have next : s.retireAll r (p :: ps) = (s.retireHoldingSolar p r).retireAll r ps := rfl
    have ended (n : NoticeRegister) : n.ended r = n.raise .grantEnded := by
      have unplanned : ¬(r = .released ∨ r = .completed) := by
        rintro (rfl | rfl) <;> exact absurd hr (by decide)
      rw [NoticeRegister.ended, if_neg unplanned, if_neg ha]
    rw [next]
    cases hg : s.grant p with
    | none =>
      have ends : s.EndsIn (p :: ps) ↔ s.EndsIn ps := by simp [State.EndsIn, hg]
      have fails : s.FailsIn (p :: ps) ↔ s.FailsIn ps := by simp [State.FailsIn, State.HygieneAt, hg]
      rw [State.retireHoldingSolar_none hg] at hygiene notices ⊢
      simp only [ends, fails]
      exact ⟨hygiene, notices⟩
    | some g =>
      have ends : s.EndsIn (p :: ps) := ⟨p, List.mem_cons_self, by rw [hg]; exact Option.some_ne_none g⟩
      have notCompleted : r ≠ .completed := fun e => by rw [e] at hr; exact absurd hr (by decide)
      by_cases hf : g.cls = .hygiene ∧ s.hygiene.state = .inProgress
      · -- the run fails here, and so no more below
        obtain ⟨hh, hs⟩ := hf
        have failed := State.retireHoldingSolar_of_failed hg hh notCompleted hs
        have fails : s.FailsIn (p :: ps) := ⟨hs, p, List.mem_cons_self, g, hg, hh⟩
        have noMore : ¬(s.retireHoldingSolar p r).FailsIn ps := fun h => by rw [failed] at h; exact nomatch h.1
        rw [if_neg noMore] at hygiene
        simp only [if_neg noMore] at notices
        simp only [if_pos ends, if_pos fails]
        rw [hygiene, notices, failed]
        refine ⟨rfl, ?_⟩
        split <;> simp only [ended, NoticeRegister.raise_comm _ .hygieneFailed .grantEnded, NoticeRegister.raise_raise]
      · have one := State.retireHoldingSolar_of_grant (r := r) hg fun h => hf ⟨h.1, h.2.2⟩
        have sameHygiene : (s.retireHoldingSolar p r).hygiene = s.hygiene := by rw [one]
        have oneNotices : (s.retireHoldingSolar p r).notices = s.notices.raise .grantEnded := by rw [one]; exact ended _
        have fails : s.FailsIn (p :: ps) ↔ (s.retireHoldingSolar p r).FailsIn ps := by
          simp only [State.FailsIn, sameHygiene, State.hygieneAt_retireHoldingSolar, List.mem_cons]
          refine and_congr_right fun hs => ⟨fun ⟨q, hq, hhyg⟩ => ?_, fun ⟨q, hq, _, hhyg⟩ => ⟨q, .inr hq, hhyg⟩⟩
          have hqp : q ≠ p := by
            rintro rfl
            obtain ⟨k, hk, hcls⟩ := hhyg
            rw [hg] at hk
            cases hk
            exact hf ⟨hcls, hs⟩
          exact ⟨q, hq.resolve_left hqp, hqp, hhyg⟩
        rw [hygiene, notices, sameHygiene, oneNotices]
        simp only [if_pos ends, fails, NoticeRegister.raise_raise, ite_self]
        exact ⟨trivial, trivial⟩

/-! ### The overheat tests -/

theorem State.anyAlarm_iff {s : State} : s.anyAlarm = true ↔ ∃ n, (s.probes.get n).alarm = true := by
  simp only [State.anyAlarm, List.any_eq_true, ProbeId.mem_all, true_and]

theorem State.overheatSetTest_iff {s : State} {st : Store} : s.overheatSetTest st = true ↔
    st.cfg.tMax ≤ topTemp st.strata ∨ ∃ n, (s.probes.get n).alarm = true := by
  rw [State.overheatSetTest, Bool.or_eq_true, decide_eq_true_iff, State.anyAlarm_iff]

theorem State.overheatClearTest_iff {s : State} {st : Store} : s.overheatClearTest st = true ↔
    topTemp st.strata ≤ st.cfg.tMax - st.cfg.hysteresis ∧ ¬∃ n, (s.probes.get n).alarm = true := by
  rw [State.overheatClearTest, Bool.and_eq_true, decide_eq_true_iff, Bool.not_eq_true', ← State.anyAlarm_iff,
    Bool.not_eq_true]

section
variable {s : State} {st : Store}

theorem State.testOverheat_of_none (hst : s.store = none) : s.testOverheat = s := by
  simp only [State.testOverheat, hst]

theorem State.testOverheat_set (hst : s.store = some st) (ho : s.arbiter.overheat = false)
    (h : s.overheatSetTest st = true) : s.testOverheat = s.setOverheat := by
  simp only [State.testOverheat, hst, ho, h, if_true, Bool.false_eq_true, if_false]

theorem State.testOverheat_cool (hst : s.store = some st) (ho : s.arbiter.overheat = false)
    (h : ¬s.overheatSetTest st = true) : s.testOverheat = s := by
  simp only [State.testOverheat, hst, ho, h, Bool.false_eq_true, if_false]

theorem State.testOverheat_clear (hst : s.store = some st) (ho : s.arbiter.overheat = true)
    (h : s.overheatClearTest st = true) : s.testOverheat = s.clearOverheat := by
  simp only [State.testOverheat, hst, ho, h, if_true]

theorem State.testOverheat_stay (hst : s.store = some st) (ho : s.arbiter.overheat = true)
    (h : ¬s.overheatClearTest st = true) : s.testOverheat = s := by
  simp only [State.testOverheat, hst, ho, h, Bool.false_eq_true, if_false, if_true]

end

theorem State.grant_setOverheat (s : State) (p : PortId) : s.setOverheat.grant p =
    (if p ∈ s.arbiter.switchablePorts then none else s.grant p).map (Grant.heldAs true) :=
  (Arbiter.grant_holdMustTake _ true p).trans (congrArg _ (State.grant_retireAll .overheat p _ s))

theorem State.port_setOverheat (s : State) (p : PortId) :
    s.setOverheat.port p = (s.retireAll .overheat s.arbiter.switchablePorts).port p := rfl

theorem State.notices_setOverheat (s : State) :
    s.setOverheat.notices = (s.retireAll .overheat s.arbiter.switchablePorts).notices.raise .overheatSet := rfl

theorem NoticeRegister.raise_keeps {r : NoticeRegister} {i : Nat} (h : r.flags.getLsbD i = true) (n : Notice) :
    (r.raise n).flags.getLsbD i = true := by
  rw [NoticeRegister.raise_flags, BitVec.getLsbD_or, h, Bool.true_or]

/-- Settles O48: overheat set is the ends of the switchable grants and the hold of the others, and overheat cleared the
release alone. -/
theorem overheatIsSetAndCleared : Obligations.OverheatIsSetAndCleared := by
  intro s st hst alarm hot cool u
  refine ⟨fun ho hn => ?_, fun ho hn => ?_, fun ho hc => ?_, fun ho hh => ?_⟩
  · exact State.testOverheat_cool hst ho (mt State.overheatSetTest_iff.mp hn)
  · exact State.testOverheat_stay hst ho (mt State.overheatClearTest_iff.mp hn)
  · have cleared : u = s.clearOverheat := State.testOverheat_clear hst ho (State.overheatClearTest_iff.mpr hc)
    rw [cleared]
    exact ⟨rfl, fun p => Arbiter.grant_holdMustTake _ false p⟩
  · have set : u = s.setOverheat := State.testOverheat_set hst ho (State.overheatSetTest_iff.mpr hh)
    have figures := s.keepsFigures_retireAll .overheat s.arbiter.switchablePorts
    obtain ⟨hygiene, notices⟩ := State.retireAll_notices (r := .overheat) rfl nofun s.arbiter.switchablePorts s
    have switched (p : PortId) (g : Grant) (hg : s.grant p = some g) (hm : ∀ held, g.cls ≠ .mustTake held) :
        p ∈ s.arbiter.switchablePorts := Arbiter.mem_switchablePorts.mpr ⟨g, hg, hm⟩
    have kept (p : PortId) (g : Grant) (held : Bool) (hg : s.grant p = some g) (hm : g.cls = .mustTake held) :
        p ∉ s.arbiter.switchablePorts := fun hp => by
      obtain ⟨k, hk, hother⟩ := Arbiter.mem_switchablePorts.mp hp
      rw [show s.arbiter.grants.get p = some g from hg] at hk
      cases hk
      exact hother held hm
    rw [set]
    refine ⟨s.touches_setOverheat, rfl, figures.solarActive, figures.solarIdle, figures.comfortEmergency,
      NoticeRegister.raise_bit _ _, fun p hp => ⟨?_, ?_⟩, fun p g held hg hm => ⟨?_, ?_, ?_⟩, fun p g hg hm => ⟨?_, ?_, ?_, ?_⟩,
      fun p g hg hh hs => ⟨?_, ?_⟩⟩
    · rw [State.grant_setOverheat, hp, ite_self, Option.map_none]
    · rw [State.port_setOverheat, State.port_retireAll_of_none hp]
    · rw [State.grant_setOverheat, if_neg (kept p g held hg hm), hg, Option.map_some]
      simp only [Grant.heldAs, hm]
    · rw [State.port_setOverheat, State.port_retireAll_other s (kept p g held hg hm)]
    · have stays := (State.mem_resume_retireAll .overheat p s.arbiter.switchablePorts s)
      exact stays.trans (and_iff_left fun h => kept p g held hg hm h.1)
    · rw [State.grant_setOverheat, if_pos (switched p g hg hm), Option.map_none]
    · have gone := (State.mem_resume_retireAll .overheat p s.arbiter.switchablePorts s)
      exact fun hp => (gone.mp hp).2 ⟨switched p g hg hm, by rw [hg]; exact Option.some_ne_none g⟩
    · rw [State.port_setOverheat, State.port_retireAll_of_grant hg _ (switched p g hg hm)]
    · have ends : s.EndsIn s.arbiter.switchablePorts :=
        ⟨p, switched p g hg hm, by rw [hg]; exact Option.some_ne_none g⟩
      rw [State.notices_setOverheat, notices]
      simp only [if_pos ends]
      refine NoticeRegister.raise_keeps ?_ _
      split
      · exact NoticeRegister.raise_keeps (NoticeRegister.raise_bit _ _) _
      · exact NoticeRegister.raise_bit _ _
    · have fails : s.FailsIn s.arbiter.switchablePorts :=
        ⟨hs, p, switched p g hg (fun held e => by rw [hh] at e; cases e), g, hg, hh⟩
      exact hygiene.trans (if_pos fails)
    · have fails : s.FailsIn s.arbiter.switchablePorts :=
        ⟨hs, p, switched p g hg (fun held e => by rw [hh] at e; cases e), g, hg, hh⟩
      rw [State.notices_setOverheat, notices]
      simp only [if_pos fails]
      exact NoticeRegister.raise_keeps (NoticeRegister.raise_bit _ _) _

/-! ### A RESET of scope GRANTS in effect -/

/-- Overheat set where no grant stands. -/
theorem State.setOverheat_of_empty {s : State} (h : ∀ p, s.grant p = none) : s.setOverheat =
    { s with arbiter := { s.arbiter with overheat := true }, notices := s.notices.raise .overheatSet } := by
  have noSwitch : s.arbiter.switchablePorts = [] := List.eq_nil_iff_forall_not_mem.mpr fun p hp => by
    obtain ⟨g, hg, -⟩ := Arbiter.mem_switchablePorts.mp hp
    exact nomatch (h p).symm.trans hg
  have sameGrants : (s.arbiter.holdMustTake true).grants = s.arbiter.grants := PerPort.ext_get fun p => by
    rw [Arbiter.grant_holdMustTake, show s.arbiter.grants.get p = none from h p, Option.map_none]
  have hold : s.arbiter.holdMustTake true = s.arbiter := congrArg (fun gs => { s.arbiter with grants := gs }) sameGrants
  unfold State.setOverheat
  rw [noSwitch]
  dsimp only [State.retireAll, List.foldl_nil]
  rw [hold]
  rfl

theorem State.clearOverheat_of_empty {s : State} (h : ∀ p, s.grant p = none) : s.clearOverheat =
    { s with arbiter := { s.arbiter with overheat := false }, notices := s.notices.raise .overheatCleared } := by
  have sameGrants : (s.arbiter.holdMustTake false).grants = s.arbiter.grants := PerPort.ext_get fun p => by
    rw [Arbiter.grant_holdMustTake, show s.arbiter.grants.get p = none from h p, Option.map_none]
  have hold : s.arbiter.holdMustTake false = s.arbiter := congrArg (fun gs => { s.arbiter with grants := gs }) sameGrants
  unfold State.clearOverheat
  rw [hold]
  rfl

open Classical in
/-- The overheat tests where no grant stands: overheat as they find it, and its flag. -/
theorem State.testOverheat_of_empty {s : State} (h : ∀ p, s.grant p = none) : ∃ overheat,
    s.testOverheat = { s with
      arbiter := { s.arbiter with overheat := overheat }
      notices := s.testOverheat.notices }
      ∧ (s.store = none → overheat = s.arbiter.overheat)
      ∧ (∀ st, s.store = some st → s.arbiter.overheat = false →
          (overheat = true ↔ st.cfg.tMax ≤ topTemp st.strata ∨ ∃ n, (s.probes.get n).alarm = true))
      ∧ (∀ st, s.store = some st → s.arbiter.overheat = true →
          (overheat = false ↔
            topTemp st.strata ≤ st.cfg.tMax - st.cfg.hysteresis ∧ ∀ n, (s.probes.get n).alarm = false))
      ∧ s.testOverheat.notices.mask = s.notices.mask
      ∧ s.testOverheat.notices.flags = s.notices.flags
          ||| (if s.arbiter.overheat = false ∧ overheat = true then Notice.overheatSet.word else 0)
          ||| (if s.arbiter.overheat = true ∧ overheat = false then Notice.overheatCleared.word else 0) := by
  have quiet : (¬∃ n, (s.probes.get n).alarm = true) ↔ ∀ n, (s.probes.get n).alarm = false := by simp
  rcases Option.eq_none_or_eq_some s.store with hst | ⟨st, hst⟩
  · rw [State.testOverheat_of_none hst]
    refine ⟨s.arbiter.overheat, rfl, fun _ => rfl, fun st' e => (nomatch hst.symm.trans e),
      fun st' e => (nomatch hst.symm.trans e), rfl, ?_⟩
    cases s.arbiter.overheat <;> simp
  have theStore {st' : Store} (e : s.store = some st') : st = st' := Option.some.inj (hst.symm.trans e)
  rcases Bool.eq_false_or_eq_true s.arbiter.overheat with ho | ho
  · have noSet : s.arbiter.overheat ≠ false := by rw [ho]; decide
    by_cases hc : s.overheatClearTest st = true
    · rw [State.testOverheat_clear hst ho hc, State.clearOverheat_of_empty h]
      refine ⟨false, rfl, fun e => (nomatch hst.symm.trans e), fun _ _ e => absurd e noSet, fun st' e _ => ?_, rfl, ?_⟩
      · rw [← theStore e, ← quiet]
        exact iff_of_true rfl (State.overheatClearTest_iff.mp hc)
      · simp [NoticeRegister.raise_flags, ho]
    · rw [State.testOverheat_stay hst ho hc]
      refine ⟨s.arbiter.overheat, rfl, fun _ => rfl, fun _ _ e => absurd e noSet, fun st' e _ => ?_, rfl, by simp [ho]⟩
      rw [← theStore e, ← quiet]
      exact iff_of_false noSet (mt State.overheatClearTest_iff.mpr hc)
  · have noClear : s.arbiter.overheat ≠ true := by rw [ho]; decide
    by_cases hh : s.overheatSetTest st = true
    · rw [State.testOverheat_set hst ho hh, State.setOverheat_of_empty h]
      refine ⟨true, rfl, fun e => (nomatch hst.symm.trans e), fun st' e _ => ?_, fun _ _ e => absurd e noClear, rfl, ?_⟩
      · rw [← theStore e]
        exact iff_of_true rfl (State.overheatSetTest_iff.mp hh)
      · simp [NoticeRegister.raise_flags, ho]
    · rw [State.testOverheat_cool hst ho hh]
      refine ⟨s.arbiter.overheat, rfl, fun _ => rfl, fun st' e _ => ?_, fun _ _ e => absurd e noClear, rfl, by simp [ho]⟩
      rw [← theStore e]
      exact iff_of_false noClear (mt State.overheatSetTest_iff.mpr hh)

theorem State.settleCorrections_of_nil {s : State} (h : s.corrections = []) : s.settleCorrections = s := by
  rw [State.settleCorrections, h]
  rfl

theorem Arbiter.anyGrant_iff {a : Arbiter} : a.anyGrant = true ↔ ∃ p, a.grants.get p ≠ none := by
  simp [Arbiter.anyGrant, Option.isSome_iff_ne_none]

theorem State.TouchesGrants.same {s t : State} (h : s.TouchesGrants t) (hc : t.choices = s.choices) :
    t = { s with arbiter := t.arbiter, hygiene := t.hygiene, notices := t.notices } :=
  h.1.trans (by rw [hc])

theorem State.TouchesGrants.link {s t : State} (h : s.TouchesGrants t) : t.link = s.link := by
  obtain ⟨-, -, -, -, link, -, -⟩ := h.fields
  exact link

theorem State.TouchesGrants.pending {s t : State} (h : s.TouchesGrants t) : t.pending = s.pending := by
  obtain ⟨-, -, -, -, -, -, pending⟩ := h.fields
  exact pending

/-- Corrections taken once leave none to take. -/
theorem State.settleCorrections_settled (s : State) : s.settleCorrections.settleCorrections = s.settleCorrections :=
  State.settleCorrections_of_nil s.settleCorrections_fields.1

/-- The Arbiter with every grant gone. -/
def State.allEnded (s : State) : State := s.retireAll .resetGrants PortId.all

theorem State.grant_allEnded (s : State) (p : PortId) : s.allEnded.grant p = none := by
  rw [State.allEnded, State.grant_retireAll, if_pos (PortId.mem_all p)]

theorem State.resume_allEnded {s : State} (h : ∀ p ∈ s.arbiter.resume, s.grant p ≠ none) : s.allEnded.arbiter.resume = [] :=
  List.eq_nil_iff_forall_not_mem.mpr fun p hp => by
    obtain ⟨listed, stays⟩ := (State.mem_resume_retireAll .resetGrants p PortId.all s).mp hp
    exact stays ⟨PortId.mem_all p, h p listed⟩

/-- The run and the flags after the ends of all grants (R102, R137). -/
theorem State.allEnded_notices {s : State} (h : s.HygieneSound) :
    s.allEnded.hygiene = (if s.hygiene.state = .inProgress then { state := .due, limit := none } else s.hygiene)
      ∧ s.allEnded.notices.mask = s.notices.mask
      ∧ s.allEnded.notices.flags = s.notices.flags
        ||| (if s.arbiter.anyGrant then Notice.grantEnded.word else 0)
        ||| (if s.hygiene.state = .inProgress then Notice.hygieneFailed.word else 0) := by
  classical
  obtain ⟨hygiene, notices⟩ := State.retireAll_notices (r := .resetGrants) rfl nofun PortId.all s
  have ends : s.EndsIn PortId.all ↔ s.arbiter.anyGrant = true := by
    rw [Arbiter.anyGrant_iff]
    exact ⟨fun ⟨p, _, hp⟩ => ⟨p, hp⟩, fun ⟨p, hp⟩ => ⟨p, PortId.mem_all p, hp⟩⟩
  have fails : s.FailsIn PortId.all ↔ s.hygiene.state = .inProgress := by
    refine ⟨And.left, fun hs => ⟨hs, ?_⟩⟩
    obtain ⟨p, g, hg, hcls⟩ := h.1.mp hs
    exact ⟨p, PortId.mem_all p, g, hg, hcls⟩
  simp only [fails] at hygiene
  simp only [ends, fails] at notices
  refine ⟨hygiene, ?_, ?_⟩
  · rw [State.allEnded, notices]
    split <;> split <;> rfl
  · rw [State.allEnded, notices]
    split <;> split <;> simp [NoticeRegister.raise_flags]

/-- Settles O10: the ends of all grants leave nothing that the overheat tests could end. -/
theorem grantsResetEndsEveryGrant : Obligations.GrantsResetEndsEveryGrant := by
  refine ⟨fun s hrun hp => ?settled, fun s hrun hp hnil hs hlist => ?effect⟩
  case settled =>
    obtain ⟨-, link, pins⟩ := s.settleCorrections_fields
    rw [exec_resetGrantsTakesEffect hrun, exec_resetGrantsTakesEffect (by rw [pins]; exact hrun), link, if_pos hp, if_pos hp,
      State.grantsResetTakesEffect, State.grantsResetTakesEffect, State.settleCorrections_settled]
  case effect =>
    let e := s.allEnded
    let c : State := { e with arbiter :=
      { e.arbiter with solarActive := false, solarIdle := none, comfortEmergency := false } }
    let w : State := c.raiseIf s.arbiter.solarActive .solarChanged
    have ended : s.TouchesGrants e := s.touches_retireAll .resetGrants PortId.all
    have figures : s.KeepsFigures e := s.keepsFigures_retireAll .resetGrants PortId.all
    have wArbiter : w.arbiter = c.arbiter := c.raiseIf_arbiter _ _
    have noGrant (p : PortId) : w.grant p = none := by
      rw [State.grant, wArbiter]
      exact s.grant_allEnded p
    have wStore : w.store = s.store := (c.raiseIf_store _ _).trans figures.store
    have wProbes : w.probes = s.probes := (c.raiseIf_probes _ _).trans figures.probes
    have wOverheat : w.arbiter.overheat = s.arbiter.overheat := (congrArg Arbiter.overheat wArbiter).trans figures.overheat
    obtain ⟨eHygiene, eMask, eFlags⟩ := State.allEnded_notices hs
    obtain ⟨overheat, effect, noStore, setRule, clearRule, mask, flags⟩ := State.testOverheat_of_empty noGrant
    rw [wStore, wOverheat] at noStore
    rw [wStore, wOverheat, wProbes] at setRule clearRule
    rw [wOverheat] at flags
    have reset : s.resetGrants = w.testOverheat := by
      have solar : e.arbiter.solarActive = s.arbiter.solarActive := figures.solarActive
      rw [show w = c.raiseIf e.arbiter.solarActive .solarChanged by rw [solar]]
      rfl
    have kept : s.TouchesGrants w.testOverheat :=
      ((ended.trans (State.touches_arbiter e _)).trans (c.touches_raiseIf _ _)).trans w.touches_testOverheat
    have choices : w.testOverheat.choices = s.choices := by
      rw [effect]
      exact (c.raiseIf_choices _ _).trans figures.choices
    have link : w.testOverheat.link = s.link := kept.link
    have uArbiter : w.testOverheat.arbiter = { c.arbiter with overheat := overheat } := by rw [effect, ← wArbiter]
    have uHygiene : w.testOverheat.hygiene = e.hygiene := by rw [effect]; exact c.raiseIf_hygiene _ _
    have uPort (p : PortId) : w.testOverheat.port p = e.port p := by rw [State.port, uArbiter]; rfl
    refine ⟨{ w.testOverheat with link := w.testOverheat.link.resetTakesEffect }, ?_, ?_, ?_, ?_, ?_, ?_⟩
    · rw [exec_resetGrantsTakesEffect hrun, if_pos hp, State.grantsResetTakesEffect, State.settleCorrections_of_nil hnil, reset]
    · exact congrArg (fun t : State => { t with link := w.testOverheat.link.resetTakesEffect }) (kept.same choices)
    · exact fun p => (congrArg (fun a : Arbiter => a.grants.get p) uArbiter).trans (s.grant_allEnded p)
    · exact fun p hg => (uPort p).trans (State.port_retireAll_of_none hg _ _)
    · exact fun p g hg => (uPort p).trans (State.port_retireAll_of_grant hg _ (PortId.mem_all p))
    · dsimp only
      rw [uArbiter, uHygiene, eHygiene, link]
      refine ⟨State.resume_allEnded hlist, rfl, rfl, rfl, figures.forecast, figures.mustTakeHeat, rfl, noStore, setRule,
        clearRule, ?_, ?_, s.link.resetTakesEffect_eq⟩
      · rw [mask, c.raiseIf_notices]
        split
        · exact eMask
        · exact eMask
      · have wFlags : w.notices.flags = e.notices.flags ||| (if s.arbiter.solarActive then Notice.solarChanged.word else 0) := by
          rw [c.raiseIf_notices]
          split
          · exact NoticeRegister.raise_flags _ _
          · exact (BitVec.or_zero).symm
        rw [flags, wFlags, eFlags]

end Sys2Proof.Machine
end

section
/-!
PROOF. The Hygiene Monitor's look, the comfort comparison and the report (R121 to R139), standing grants aside and resuming
them (R114 to R118), and the expiries of the Arbiter's and the Monitor's timers.
-/

namespace Sys2Proof.Machine

/-! ### The Hygiene Monitor's look -/

theorem Store.overdue_iff {st : Store} : st.overdue = true ↔ ∃ x ∈ st.trackedStrata, st.cfg.hygieneInterval ≤ x.age := by
  simp [Store.overdue]

theorem Store.clean_iff {st : Store} : st.clean = true ↔ ∀ x ∈ st.trackedStrata, x.age = 0 := by
  simp [Store.clean]

section
variable {s : State} {st : Store}

theorem State.hygieneLook_of_clear (hst : s.store = some st) (h : s.hygiene.state = .clear) : s.hygieneLook =
    if st.overdue then
      { s with hygiene := { s.hygiene with state := .due }, notices := s.notices.raise .hygieneDue }
    else s := by
  simp only [State.hygieneLook, hst, h]
  rfl

theorem State.hygieneLook_of_due (hst : s.store = some st) (h : s.hygiene.state = .due) : s.hygieneLook =
    if st.clean then
      { s with hygiene := { s.hygiene with state := .clear }, notices := s.notices.raise .hygieneDone }
    else s := by
  simp only [State.hygieneLook, hst, h]
  rfl

theorem State.hygieneLook_of_inProgress (hst : s.store = some st) (h : s.hygiene.state = .inProgress) : s.hygieneLook =
    if st.clean then
      State.retireAll
        { s with hygiene := { state := .clear, limit := none }, notices := s.notices.raise .hygieneDone }
        .completed s.arbiter.hygienePorts
    else s := by
  simp only [State.hygieneLook, hst, h]
  rfl

end

/-- A sound Monitor has one port with a HYGIENE grant at most (R131). -/
theorem State.HygieneSound.hygienePorts {s : State} (h : s.HygieneSound) {p : PortId} {g : Grant}
    (hg : s.grant p = some g) (hcls : g.cls = .hygiene) : s.arbiter.hygienePorts = [p] := by
  obtain ⟨-, unique, -⟩ := h
  refine List.perm_singleton.mp ((List.perm_ext_iff_of_nodup (PortId.all_nodup.filter _) (List.nodup_singleton p)).mpr ?_)
  intro q
  rw [← Arbiter.hygienePorts, Arbiter.mem_hygienePorts, List.mem_singleton]
  constructor
  · rintro ⟨k, hk, hkc⟩
    exact unique q p k g hk hg hkc hcls
  · rintro rfl
    exact ⟨g, hg, hcls⟩

/-- Settles O50: one equation for each state of the Monitor, and the one HYGIENE grant of a run. -/
theorem hygieneMonitorLooks : Obligations.HygieneMonitorLooks := by
  intro s st hst overdue clean
  refine ⟨fun hc hn => ?_, fun hc ho => ?_, fun hc hn => ?_, fun hd hcl => ?_, fun p g hs hg hcls hcl => ?_⟩
  · rw [State.hygieneLook_of_clear hst hc, if_neg (mt Store.overdue_iff.mp hn)]
  · rw [State.hygieneLook_of_clear hst hc, if_pos (Store.overdue_iff.mpr ho)]
  · have dirty : ¬st.clean = true := mt Store.clean_iff.mp hn
    cases h : s.hygiene.state with
    | clear => exact absurd h hc
    | due => rw [State.hygieneLook_of_due hst h, if_neg dirty]
    | inProgress => rw [State.hygieneLook_of_inProgress hst h, if_neg dirty]
  · rw [State.hygieneLook_of_due hst hd, if_pos (Store.clean_iff.mpr hcl)]
  · have running : s.hygiene.state = .inProgress := hs.1.mpr ⟨p, g, hg, hcls⟩
    rw [State.hygieneLook_of_inProgress hst running, if_pos (Store.clean_iff.mpr hcl), hs.hygienePorts hg hcls]
    exact State.retireHoldingSolar_of_grant
      (s := { s with hygiene := { state := .clear, limit := none }, notices := s.notices.raise .hygieneDone }) hg
      fun h => h.2.1 rfl

/-! ### The comfort comparison and the report -/

section
variable {s : State} {st : Store}

theorem State.compareComfort_of_holiday (hst : s.store = some st) (hh : st.holiday = true) : s.compareComfort = s := by
  simp only [State.compareComfort, hst, hh, if_true]

theorem State.compareComfort_of_low (hst : s.store = some st) (hh : st.holiday = false)
    (hl : st.hotVolume < st.cfg.minHotVolume) :
    s.compareComfort = if s.arbiter.comfortEmergency then s else s.enterEmergency := by
  simp only [State.compareComfort, hst, hh, if_pos hl, Bool.false_eq_true, if_false]

theorem State.compareComfort_of_warm (hst : s.store = some st) (hh : st.holiday = false)
    (hl : ¬st.hotVolume < st.cfg.minHotVolume) :
    s.compareComfort = if s.arbiter.comfortEmergency then s.leaveEmergency else s := by
  simp only [State.compareComfort, hst, hh, if_neg hl, Bool.false_eq_true, if_false]

end

/-- The emergency as it is entered, before the marks go and the list is popped. -/
def State.emergencySet (s : State) : State :=
  { s with arbiter := { s.arbiter with comfortEmergency := true }, notices := s.notices.raise .comfortLow }

theorem State.enterEmergency_eq (s : State) : s.enterEmergency = s.emergencySet.removeMarks.popResume := rfl

theorem State.leaveEmergency_eq (s : State) : s.leaveEmergency =
    let t : State := { s with arbiter := { s.arbiter with comfortEmergency := false } }
    if s.arbiter.solarActive then t.standAside else t := rfl

theorem State.modelChanged_of_none {s : State} (h : s.store = none) : s.modelChanged = s := by
  have cool : s.testOverheat = s := State.testOverheat_of_none h
  have comfort : s.compareComfort = s := by simp only [State.compareComfort, h]
  have report : s.arbiterReport = s := by rw [State.arbiterReport, cool, comfort]
  have look : s.hygieneLook = s := by simp only [State.hygieneLook, h]
  have completes : s.lookCompletesRun = false := by simp only [State.lookCompletesRun, h]
  rw [State.modelChanged, completes, Bool.false_and, if_neg Bool.false_ne_true, report, look]

theorem State.lookCompletesRun_iff {s : State} {st : Store} (hst : s.store = some st) : s.lookCompletesRun = true ↔
    s.hygiene.state = .inProgress ∧ st.clean = true := by
  simp only [State.lookCompletesRun, hst, Bool.and_eq_true, decide_eq_true_iff]

theorem State.reportSetsOverheat_iff {s : State} {st : Store} (hst : s.store = some st) : s.reportSetsOverheat = true ↔
    s.arbiter.overheat = false ∧ (st.cfg.tMax ≤ topTemp st.strata ∨ ∃ n, (s.probes.get n).alarm = true) := by
  simp only [State.reportSetsOverheat, hst, Bool.and_eq_true, State.overheatSetTest_iff, Bool.not_eq_true']

/-- Settles O49: an equation for each outcome of the comparison, and the two orders of a report. -/
theorem comfortEmergencyIsEnteredAndLeft : Obligations.ComfortEmergencyIsEnteredAndLeft := by
  refine ⟨?comparison, fun s => State.modelChanged_of_none, ?report⟩
  case comparison =>
    intro s st hst low entered left
    refine ⟨State.compareComfort_of_holiday hst, fun hh agree => ?_, fun hh hl he => ?_, fun hh hl he => ?_⟩
    · by_cases hl : low
      · rw [State.compareComfort_of_low hst hh hl, if_pos (agree.mp hl)]
      · rw [State.compareComfort_of_warm hst hh hl, if_neg (mt agree.mpr hl)]
    · intro u
      have eq : u = s.emergencySet.removeMarks.popResume := by
        refine (State.compareComfort_of_low hst hh hl).trans ?_
        rw [he, if_neg Bool.false_ne_true, State.enterEmergency_eq]
      rw [eq]
      have figures := s.emergencySet.keepsFigures_removeMarks.trans s.emergencySet.removeMarks.keepsFigures_popResume
      exact ⟨rfl, figures.comfortEmergency, State.resume_popResume _, figures.solarActive, figures.solarIdle, figures.overheat,
        (State.noMarks_removeMarks _).popResume, (State.touches_popResume _).flag (NoticeRegister.raise_bit _ _)⟩
    · rw [State.compareComfort_of_warm hst hh hl, if_pos he, State.leaveEmergency_eq]
      exact ⟨fun hs => if_neg (by rw [hs]; decide), fun hs => if_pos hs⟩
  case report =>
    intro s st hst completes overheats x
    have completesIff : s.lookCompletesRun = true ↔ completes := by
      rw [State.lookCompletesRun_iff hst, Store.clean_iff]
    have overheatsIff : s.reportSetsOverheat = true ↔ overheats := State.reportSetsOverheat_iff hst
    refine ⟨fun hn => ?_, fun hc ho => ?_⟩
    · have plain : ¬(s.lookCompletesRun && s.reportSetsOverheat) = true := by
        rw [Bool.and_eq_true, completesIff, overheatsIff]
        exact hn
      rw [State.modelChanged, if_neg plain]
      rfl
    · have both : (s.lookCompletesRun && s.reportSetsOverheat) = true := by
        rw [Bool.and_eq_true, completesIff, overheatsIff]
        exact ⟨hc, ho⟩
      rw [State.modelChanged, if_pos both]
      cases Config.lookOrder s.choices with
      | beforeArbiter => exact .inl rfl
      | beforeAnswer => exact .inr rfl
      | afterAnswer => exact .inr rfl

/-! ### Standing aside -/

/-- The NORMAL part of a port's grant set, as one record update. -/
def State.setNormal (s : State) (p : PortId) (g : Grant) (m : NormalGrant) : State :=
  { s with arbiter := { s.arbiter with grants := s.arbiter.grants.set p (some { g with cls := .normal m }) } }

section
variable {s : State} {p : PortId} {g : Grant} {n : NormalGrant}

theorem State.changeGrant_normal (hg : s.grant p = some g) (hn : g.cls = .normal n) (f : NormalGrant → NormalGrant) :
    s.changeGrant p (Grant.changeNormal f) = s.setNormal p g (f n) := by
  rw [State.changeGrant, Arbiter.changeGrant, show s.arbiter.grants.get p = some g from hg, Option.map_some,
    Grant.changeNormal_of_normal hn]
  rfl

theorem State.standAsidePort_of_normal (hg : s.grant p = some g) (hn : g.cls = .normal n) : s.standAsidePort p =
    if n.suspended then s
    else if n.minRun = none then (s.setNormal p g { n with suspended := true, suspendPending := false }).pushResume p
    else s.setNormal p g { n with suspendPending := true } := by
  have held : (s.grant p).bind Grant.normal? = some n := State.bind_normal?_eq_some.mpr ⟨g, hg, hn⟩
  simp only [State.standAsidePort, held, State.suspend, State.changeGrant_normal hg hn]

theorem State.standAsidePort_of_other (h : ∀ g n, s.grant p = some g → g.cls ≠ .normal n) : s.standAsidePort p = s := by
  have held : (s.grant p).bind Grant.normal? = none := Option.eq_none_iff_forall_ne_some.mpr fun n hn => by
    obtain ⟨g, hg, hcls⟩ := State.bind_normal?_eq_some.mp hn
    exact h g n hg hcls
  simp only [State.standAsidePort, held]

end

/-- A grant stood aside (R114): suspended where its minimum run is over, marked where it still runs. -/
def Grant.stoodAside (g : Grant) : Grant :=
  match g.cls with
  | .normal n => if n.suspended then g
      else if n.minRun = none then { g with cls := .normal { n with suspended := true, suspendPending := false } }
      else { g with cls := .normal { n with suspendPending := true } }
  | .mustTake _ => g
  | .hygiene => g

/-- A port's grant is suspended where grants stand aside now. -/
def State.dueAside (s : State) (p : PortId) : Bool :=
  match s.grant p with
  | some g => match g.cls with
    | .normal n => !n.suspended && decide (n.minRun = none) | .mustTake _ => false | .hygiene => false
  | none => false

theorem Grant.stoodAside_of_other {g : Grant} (h : ∀ n, g.cls ≠ .normal n) : g.stoodAside = g := by
  unfold Grant.stoodAside
  split
  · next n hn => exact absurd hn (h n)
  · rfl
  · rfl

theorem State.dueAside_of_other {s : State} {p : PortId} (h : ∀ g n, s.grant p = some g → g.cls ≠ .normal n) :
    s.dueAside p = false := by
  unfold State.dueAside
  split
  · next g hg =>
    split
    · next n hn => exact absurd hn (h g n hg)
    · rfl
    · rfl
  · rfl

/-- One port's grant stood aside where the list has room. -/
theorem State.standAsidePort_of_room {s : State} {p : PortId} (h : s.dueAside p = true → s.arbiter.resume.length < 4) :
    s.standAsidePort p = { s with arbiter := { s.arbiter with
      resume := if s.dueAside p then p :: s.arbiter.resume else s.arbiter.resume
      grants := s.arbiter.grants.set p ((s.grant p).map Grant.stoodAside) } } := by
  by_cases hn : ∃ g n, s.grant p = some g ∧ g.cls = .normal n
  · obtain ⟨g, n, hg, hn⟩ := hn
    rw [State.standAsidePort_of_normal hg hn, hg, Option.map_some]
    by_cases hs : n.suspended = true
    · have notDue : s.dueAside p = false := by simp [State.dueAside, hg, hn, hs]
      have same : g.stoodAside = g := by simp [Grant.stoodAside, hn, hs]
      rw [if_pos hs, notDue, if_neg Bool.false_ne_true, same, ← hg]
      exact congrArg (fun gs => { s with arbiter := { s.arbiter with grants := gs } }) (PerPort.set_get _ _).symm
    · by_cases hm : n.minRun = none
      · have due : s.dueAside p = true := by simp [State.dueAside, hg, hn, hs, hm]
        rw [if_neg hs, if_pos hm, State.pushResume_of_room (s := s.setNormal p g _) (h due), if_pos due]
        simp only [Grant.stoodAside, hn, if_neg hs, if_pos hm]
        rfl
      · have notDue : s.dueAside p = false := by simp [State.dueAside, hg, hn, hm]
        rw [if_neg hs, if_neg hm, notDue, if_neg Bool.false_ne_true]
        simp only [Grant.stoodAside, hn, if_neg hs, if_neg hm]
        rfl
  · have other : ∀ g n, s.grant p = some g → g.cls ≠ .normal n := fun g n hg e => hn ⟨g, n, hg, e⟩
    have same : (s.grant p).map Grant.stoodAside = s.grant p := by
      cases hg : s.grant p with
      | none => rfl
      | some g => rw [Option.map_some, Grant.stoodAside_of_other fun n => other g n hg]
    rw [State.standAsidePort_of_other other, State.dueAside_of_other other, if_neg Bool.false_ne_true, same]
    exact congrArg (fun gs => { s with arbiter := { s.arbiter with grants := gs } }) (PerPort.set_get _ _).symm

/-- Several ports stood aside, each once, where the list has room for all that are due. -/
theorem State.standAside_of_room : ∀ (ps : List PortId) (s : State), ps.Nodup →
    (ps.filter s.dueAside).length + s.arbiter.resume.length ≤ 4 →
    ∃ grants, ps.foldl State.standAsidePort s = { s with arbiter := { s.arbiter with
        resume := (ps.filter s.dueAside).reverse ++ s.arbiter.resume, grants := grants } }
      ∧ ∀ q, grants.get q = if q ∈ ps then (s.grant q).map Grant.stoodAside else s.grant q
  | [], s, _, _ => ⟨s.arbiter.grants, rfl, fun q => (if_neg List.not_mem_nil).symm⟩
  | p :: ps, s, nodup, room => by
    obtain ⟨hp, nodup⟩ := List.nodup_cons.mp nodup
    have roomHere (due : s.dueAside p = true) : s.arbiter.resume.length < 4 := by
      rw [List.filter_cons_of_pos due, List.length_cons] at room
      omega
    let t := s.standAsidePort p
    have one : t = _ := State.standAsidePort_of_room roomHere
    have grant (q : PortId) : t.grant q = if q = p then (s.grant p).map Grant.stoodAside else s.grant q := by
      rw [one]
      exact PerPort.get_set _ _ _ _
    have resume : t.arbiter.resume = if s.dueAside p then p :: s.arbiter.resume else s.arbiter.resume := by rw [one]
    have due : ps.filter t.dueAside = ps.filter s.dueAside := List.filter_congr fun q hq => by
      have other : q ≠ p := fun e => hp (e ▸ hq)
      rw [State.dueAside, grant, if_neg other, State.dueAside]
    have listed : (ps.filter s.dueAside).reverse ++ t.arbiter.resume
        = ((p :: ps).filter s.dueAside).reverse ++ s.arbiter.resume := by
      rw [resume]
      cases hd : s.dueAside p with
      | true => rw [List.filter_cons_of_pos hd, if_pos rfl, List.reverse_cons, List.append_assoc]; rfl
      | false => rw [List.filter_cons_of_neg (by rw [hd]; decide), if_neg Bool.false_ne_true]
    have room' : (ps.filter t.dueAside).length + t.arbiter.resume.length ≤ 4 := by
      have same := congrArg List.length listed
      rw [List.length_append, List.length_append, List.length_reverse, List.length_reverse] at same
      rw [due]
      omega
    obtain ⟨grants, rest, others⟩ := State.standAside_of_room ps t nodup room'
    rw [due, listed] at rest
    refine ⟨grants, ?_, fun q => (others q).trans ?_⟩
    · rw [List.foldl_cons, show s.standAsidePort p = t from rfl, rest, one]
    · by_cases hq : q = p
      · subst hq
        rw [if_neg hp, grant, if_pos rfl, if_pos List.mem_cons_self]
      · rw [grant, if_neg hq]
        simp only [List.mem_cons, hq, false_or]

/-! ### Resumption -/

/-- A retirement ABANDONED sets its two flags (R102). -/
theorem State.flags_abandoned {s : State} {p : PortId} {g : Grant} (hg : s.grant p = some g) :
    (s.retireHoldingSolar p .abandoned).notices.flags.getLsbD Notice.grantEnded.bit = true
      ∧ (s.retireHoldingSolar p .abandoned).notices.flags.getLsbD Notice.resumeDropped.bit = true := by
  have ended : (s.notices.ended .abandoned).flags.getLsbD Notice.grantEnded.bit = true
      ∧ (s.notices.ended .abandoned).flags.getLsbD Notice.resumeDropped.bit = true :=
    ⟨NoticeRegister.raise_keeps (NoticeRegister.raise_bit _ _) _, NoticeRegister.raise_bit _ _⟩
  by_cases hf : g.cls = .hygiene ∧ s.hygiene.state = .inProgress
  · rw [State.retireHoldingSolar_of_failed hg hf.1 (by decide) hf.2]
    exact ⟨NoticeRegister.raise_keeps ended.1 _, NoticeRegister.raise_keeps ended.2 _⟩
  · rw [State.retireHoldingSolar_of_grant hg fun h => hf ⟨h.1, h.2.2⟩]
    exact ended

/-- A push onto a full list of four, no port standing twice (R118). -/
theorem State.pushResume_of_four {s : State} {a b c d : PortId} (hl : s.arbiter.resume = [a, b, c, d])
    (nodup : [a, b, c, d].Nodup) {g : Grant} (hg : s.grant d = some g) (p : PortId) :
    s.pushResume p = { s.retireHoldingSolar d .abandoned with
      arbiter := { (s.retireHoldingSolar d .abandoned).arbiter with resume := [p, a, b, c] } } := by
  have three : ∀ q ∈ [a, b, c], q ≠ d := fun q hq e =>
    (List.nodup_append.mp (show ([a, b, c] ++ [d]).Nodup from nodup)).2.2 q hq d (List.mem_singleton_self d) e
  have rest : (s.retireHoldingSolar d .abandoned).arbiter.resume = [a, b, c] := by
    rw [State.resume_retireHoldingSolar hg, hl, show [a, b, c, d] = [a, b, c] ++ [d] from rfl, List.filter_append,
      List.filter_eq_self.mpr fun q hq => decide_eq_true (three q hq)]
    simp
  rw [State.pushResume_of_full (above := [a, b, c]) hl (Nat.le_refl 3), rest]

theorem State.popResume_of_cons {s : State} {p : PortId} {rest : List PortId} (hl : s.arbiter.resume = p :: rest)
    (hp : p ∉ rest) : s.popResume =
      State.popResume (State.resumeGrant { s with arbiter := { s.arbiter with resume := rest } } p) := by
  have left : (State.resumeGrant { s with arbiter := { s.arbiter with resume := rest } } p).arbiter.resume = rest :=
    State.resume_resumeGrant _ hp
  rw [State.popResume, State.popResume, hl, left]
  rfl

section
variable {s : State} {st : Store} {p : PortId} {g : Grant} {n : NormalGrant}

theorem State.resumeGrant_of_normal (hst : s.store = some st) (hg : s.grant p = some g) (hn : g.cls = .normal n) :
    s.resumeGrant p =
      let fresh := min (n.budget - g.delivered) (min (freeNeed st s.arbiter p) (roomTerm st s.arbiter))
      if fresh = 0 then s.retireHoldingSolar p .satisfied
      else s.setNormal p g
        { budget := g.delivered + fresh, minRun := startMinRun st.cfg.minRun, suspendPending := false, suspended := false } := by
  simp only [State.resumeGrant, hst, hg, Grant.normal?_eq_some.mpr hn, allowance]
  refine if_congr Iff.rfl rfl ?_
  rw [State.changeGrant, Arbiter.changeGrant, show s.arbiter.grants.get p = some g from hg, Option.map_some,
    Grant.resumed, Grant.changeNormal_of_normal hn]
  rfl

end

/-- Solar-active as a productive deposit sets or keeps it, its idle timer started (R113). -/
def State.solarSet (s : State) (st : Store) : State :=
  { s with arbiter := { s.arbiter with solarActive := true, solarIdle := some (st.cfg.solarIdle * 32768) } }

section
variable {s : State} {st : Store}

theorem State.productiveDeposit_of_active (hst : s.store = some st) (h : s.arbiter.solarActive = true) :
    s.productiveDeposit = s.solarSet st := by
  have kept : ({ s with arbiter := { s.arbiter with solarIdle := seconds st.cfg.solarIdle } } : State) = s.solarSet st :=
    congrArg (fun b => ({ s with arbiter :=
      { s.arbiter with solarActive := b, solarIdle := seconds st.cfg.solarIdle } } : State)) h
  rw [← kept]
  unfold State.productiveDeposit
  split
  · next e => exact nomatch hst.symm.trans e
  · next st' e =>
    rw [Option.some.inj (hst.symm.trans e)]
    exact if_pos h

theorem State.productiveDeposit_of_clear (hst : s.store = some st) (h : s.arbiter.solarActive = false) :
    s.productiveDeposit =
      let t : State := { s.solarSet st with notices := s.notices.raise .solarChanged }
      if s.arbiter.comfortEmergency then t else t.standAside := by
  unfold State.productiveDeposit
  split
  · next e => exact nomatch hst.symm.trans e
  · next st' e =>
    rw [Option.some.inj (hst.symm.trans e)]
    exact if_neg (by rw [h]; decide)

end

/-- Settles O47: one equation for each step of standing aside, pushing, popping and resuming. -/
theorem suspensionAndResumption : Obligations.SuspensionAndResumption := by
  refine ⟨?aside, fun s => rfl, ?port, fun s p h => ?stays,
    fun s p => State.pushResume_of_room, fun s p q above => State.pushResume_of_full, fun s => ⟨rfl, fun p => ?marks⟩,
    fun s h => ?nothing, ?four, fun s p rest hl hp => State.popResume_of_cons hl hp,
    ?resume, ?productive⟩
  case aside =>
    intro s due room
    obtain ⟨grants, eq, get⟩ := State.standAside_of_room PortId.all s PortId.all_nodup room
    rw [State.standAside, eq]
    exact ⟨rfl, fun p => (get p).trans (if_pos (PortId.mem_all p))⟩
  case port =>
    intro s p g n hg hn hs changed
    rw [State.standAsidePort_of_normal hg hn, if_neg (by rw [hs]; decide)]
    exact ⟨fun hm => if_pos hm, fun hm => if_neg hm⟩
  case stays =>
    by_cases hn : ∃ g n, s.grant p = some g ∧ g.cls = .normal n
    · obtain ⟨g, n, hg, hn⟩ := hn
      rw [State.standAsidePort_of_normal hg hn, if_pos (h g n hg hn)]
    · exact State.standAsidePort_of_other fun g n hg e => hn ⟨g, n, hg, e⟩
  case marks => exact s.grant_removeMarks p
  case nothing => rw [State.popResume, h]; rfl
  case four =>
    intro s p a b c d hl nodup hd u
    obtain ⟨g, hg⟩ := Option.ne_none_iff_exists'.mp hd
    exact ⟨State.pushResume_of_four hl nodup hg p, (s.grant_retireHoldingSolar d d _).trans (if_pos rfl),
      (State.flags_abandoned hg).2⟩
  case resume =>
    intro s st p g n hst hg hn fresh
    rw [State.resumeGrant_of_normal hst hg hn]
    exact ⟨fun h => if_pos h, fun h => if_neg h⟩
  case productive =>
    intro s st hst kept
    refine ⟨fun h => ?_, fun h he => ?_, fun h he => ?_⟩
    · exact State.productiveDeposit_of_active hst h
    · rw [State.productiveDeposit_of_clear hst h]
      exact if_pos he
    · rw [State.productiveDeposit_of_clear hst h]
      exact if_neg (by rw [he]; decide)

/-! ### The expiries -/

section
variable {s : State} {p : PortId} {g : Grant} {n : NormalGrant}

theorem State.expireMinRun_of_normal (hg : s.grant p = some g) (hn : g.cls = .normal n) (hm : n.minRun ≠ none) :
    s.expireMinRun p =
      if n.suspendPending then
        (s.setNormal p g { n with minRun := none, suspendPending := false, suspended := true }).pushResume p
      else s.setNormal p g { n with minRun := none } := by
  have held : (s.grant p).bind Grant.normal? = some n := State.bind_normal?_eq_some.mpr ⟨g, hg, hn⟩
  have after : (s.setNormal p g { n with minRun := none }).grant p = some { g with cls := .normal { n with minRun := none } } :=
    PerPort.get_set_same _ _ _
  have twice : (s.setNormal p g { n with minRun := none }).setNormal p { g with cls := .normal { n with minRun := none } }
      { n with minRun := none, suspendPending := false, suspended := true }
      = s.setNormal p g { n with minRun := none, suspendPending := false, suspended := true } := by
    simp only [State.setNormal, PerPort.set_set]
  simp only [State.expireMinRun, held, if_neg hm, State.changeGrant_normal hg hn, State.suspend,
    State.changeGrant_normal after rfl, twice]

theorem State.expireMinRun_of_stopped (h : ∀ g n, s.grant p = some g → g.cls = .normal n → n.minRun = none) :
    s.expireMinRun p = s := by
  unfold State.expireMinRun
  split
  · rfl
  · next n hn =>
    obtain ⟨g, hg, hcls⟩ := State.bind_normal?_eq_some.mp hn
    exact if_pos (h g n hg hcls)

end

theorem State.whenRunning_of_same {s : State} {f : State → State} (h : f s = s) : s.whenRunning f = s := by
  rw [State.whenRunning, h, ite_self]

theorem Grant.changeNormal_fields (g : Grant) (f : NormalGrant → NormalGrant) : (g.changeNormal f).handle = g.handle
    ∧ (g.changeNormal f).delivered = g.delivered ∧ (g.changeNormal f).liveness = g.liveness := by
  unfold Grant.changeNormal
  split <;> exact ⟨rfl, rfl, rfl⟩

/-- Settles O46: each expiry as its timer's owner carries it out, and nothing where the timer is stopped. -/
theorem arbiterExpiriesSuspendClearAndFail : Obligations.ArbiterExpiriesSuspendClearAndFail := by
  refine ⟨fun s p g n hrun hg hn hm => ?minRun, fun s p h => ?minRunStopped, fun s h => ?idleStopped,
    fun s hrun hi hs => ?idle, fun s h => ?limitStopped, fun s p g hrun hs hg hcls => ?limit⟩
  case minRun =>
    have run : exec (.minRunExpiry p) s = .next (s.expireMinRun p) :=
      congrArg Host.Outcome.next (State.whenRunning_of_running hrun _)
    rw [run, State.expireMinRun_of_normal hg hn hm]
    refine ⟨fun hp => congrArg Host.Outcome.next (if_neg (by rw [hp]; decide)), fun hp => ?_, fun hp hl => ?_⟩
    · refine ⟨congrArg Host.Outcome.next (if_pos hp), fun a b c d h hl nodup hd => ?_⟩
      let suspended := s.setNormal p g { n with minRun := none, suspendPending := false, suspended := true }
      obtain ⟨hpl, nodup⟩ := List.nodup_cons.mp nodup
      have hdp : d ≠ p := fun e => hpl (by rw [← e]; simp)
      have hd' : suspended.grant d = some h := (PerPort.get_set_other _ _ hdp).trans hd
      have pushed : suspended.pushResume p = _ := State.pushResume_of_four (s := suspended) hl nodup hd' p
      refine ⟨suspended.pushResume p, congrArg Host.Outcome.next (if_pos hp), ?_⟩
      rw [pushed]
      obtain ⟨ended, dropped⟩ := State.flags_abandoned hd'
      refine ⟨rfl, (suspended.grant_retireHoldingSolar d p _).trans (if_neg hdp.symm),
        (suspended.grant_retireHoldingSolar d d _).trans (if_pos rfl), ?_, ended, dropped⟩
      exact congrArg Port.lastEnd ((State.port_retireHoldingSolar hd' _ d).trans (if_pos rfl))
    · rw [if_pos hp]
      exact congrArg Host.Outcome.next (State.pushResume_of_room hl)
  case minRunStopped => exact congrArg Host.Outcome.next (State.whenRunning_of_same (State.expireMinRun_of_stopped h))
  case idleStopped =>
    exact congrArg Host.Outcome.next (State.whenRunning_of_same (if_neg (by rw [h]; decide)))
  case idle =>
    obtain ⟨eq, solar, stopped, list, marks, hygiene, -⟩ := State.clearSolar_spec hs
    have expired : s.expireSolarIdle = s.clearSolar := if_pos (Option.isSome_iff_ne_none.mpr hi)
    refine ⟨s.clearSolar, ?_, eq, s.touches_clearSolar, hygiene, solar, stopped, list, ?_, marks, fun q hq k hk => ?_⟩
    · exact congrArg Host.Outcome.next ((State.whenRunning_of_running hrun _).trans expired)
    · rw [eq]
      exact ((State.touches_removeMarks _).trans (State.touches_popResume _)).flag (NoticeRegister.raise_bit _ _)
    · rw [eq, State.grant_popResume_other (show q ∉ s.solarCleared.removeMarks.arbiter.resume from hq),
        State.grant_removeMarks, show s.solarCleared.grant q = some k from hk, Option.map_some]
      obtain ⟨handle, delivered, liveness⟩ := k.changeNormal_fields fun n => { n with suspendPending := false }
      exact ⟨_, rfl, handle, delivered, liveness⟩
  case limitStopped =>
    exact congrArg Host.Outcome.next (State.whenRunning_of_same (if_neg (by rw [h]; decide)))
  case limit =>
    have running : s.hygiene.state = .inProgress := hs.1.mpr ⟨p, g, hg, hcls⟩
    have expired : s.expireHygieneLimit = s.retireHoldingSolar p .timedOut := by
      rw [State.expireHygieneLimit, if_pos (Option.isSome_iff_ne_none.mpr (hs.2.2.mpr running)), hs.hygienePorts hg hcls]
      rfl
    exact congrArg Host.Outcome.next ((State.whenRunning_of_running hrun _).trans
      (expired.trans (State.retireHoldingSolar_of_failed hg hcls nofun running)))

end Sys2Proof.Machine
end

section
/-!
PROOF. The requests to the Store Model that keep the list or change it in one operation (chapters 4 and 11), and the Store
Model's two timers.
-/

namespace Sys2Proof.Machine

/-! ### Replies as answers on the link -/

/-- A short request of channel 0 that is taken and answered without a body. -/
theorem State.shortRequest_of_reply {s t u : State} {p0 p1 : Byte} {owner : State → Reply} {status : Status} {value : Nat}
    (k : Nat) (hk : k ∈ [1, 2, 3, 4, 8, 9, 10, 11, 13, 14]) (h : s.Taking ⟨BitVec.ofNat 5 k, 0, .short p0 p1⟩ t)
    (hr : owner t = u.answer status value) :
    s.shortRequest k 0 p0 p1 owner
      = u.sent (shortAnswer (BitVec.ofNat 5 k) 0 (BitVec.ofNat 8 status.code) (BitVec.ofNat 8 value)) := by
  rw [State.shortRequest_supervisor k hk h, hr]
  rfl

/-- A short request of channel 0 that is taken and answered with a body. -/
theorem State.shortRequest_of_longReply {s t u : State} {p0 p1 : Byte} {owner : State → Reply} {status : Status}
    {value : Nat} {body : List Byte} (k : Nat) (hk : k ∈ [5, 12, 15]) (h : s.Taking ⟨BitVec.ofNat 5 k, 0, .short p0 p1⟩ t)
    (hr : owner t = u.answer status value body) (hb : body.length < 65534) :
    s.shortRequest k 0 p0 p1 owner
      = u.sent (longAnswer (BitVec.ofNat 5 k) 0 (BitVec.ofNat 8 status.code) (BitVec.ofNat 8 value) body) := by
  rw [State.shortRequest_longAnswer k hk h owner (by rw [hr]; exact hb), hr]
  rfl

theorem State.onStore_some {s : State} {st : Store} (h : s.store = some st) (f : Store → State → Reply) :
    s.onStore f = f st s := by
  simp only [State.onStore, h]

theorem State.onStore_none {s : State} (h : s.store = none) (f : Store → State → Reply) :
    s.onStore f = s.answer .notConfigured := by
  simp only [State.onStore, h]

/-! ### Figures held -/

/-- A clamp from 0 is a minimum. -/
theorem clamp_zero (hi n : Nat) : clamp 0 hi n = min hi n := by
  rw [clamp, Nat.zero_max, Nat.min_comm]

/-- Settles O17: each owner's reply is the one record update the request stands for. -/
theorem heldFiguresAreSet : Obligations.HeldFiguresAreSet := by
  intro s t p0 p1 st hst
  refine ⟨fun h => ?_, fun h => ?_, fun h => ?_⟩
  · let u : State := { t with store := some { st with mains := min 4000 (p0.toNat + 256 * p1.toNat) } }
    have set : t.setMainsRequest p0 p1 = u.answer .ok := by
      rw [State.setMainsRequest, State.onStore_some hst, clamp_zero]
      rfl
    exact congrArg Host.Outcome.next (State.shortRequest_of_reply 3 (by decide) h set)
  · let u : State := { t with store := some { st with ambient := min 4000 (p0.toNat + 256 * p1.toNat) } }
    have set : t.setAmbientRequest p0 p1 = u.answer .ok := by
      rw [State.setAmbientRequest, State.onStore_some hst, clamp_zero]
      rfl
    exact congrArg Host.Outcome.next (State.shortRequest_of_reply 4 (by decide) h set)
  · let u : State := { t with arbiter := { t.arbiter with forecast := p0.toNat + 256 * p1.toNat, mustTakeHeat := 0 } }
    have set : t.setForecastRequest p0 p1 = u.answer .ok := State.onStore_some hst _
    exact congrArg Host.Outcome.next (State.shortRequest_of_reply 2 (by decide) h set)

/-! ### SET_MODE -/

theorem State.KeepsFigures.arbiter_eq {s t : State} (h : s.KeepsFigures t) : t.arbiter =
    { s.arbiter with ports := t.arbiter.ports, grants := t.arbiter.grants, resume := t.arbiter.resume } := by
  dsimp only
  rw [← h.solarActive, ← h.solarIdle, ← h.comfortEmergency, ← h.overheat, ← h.forecast, ← h.mustTakeHeat]

section
variable {t : State} {st : Store} {p0 : Byte}

theorem State.setModeRequest_range (hst : t.store = some st) (h1 : p0 ≠ 1) (h2 : p0 ≠ 2) :
    t.setModeRequest p0 = t.answer .errRange := by
  have n1 : p0.toNat ≠ 1 := fun e => h1 (BitVec.eq_of_toNat_eq e)
  have n2 : p0.toNat ≠ 2 := fun e => h2 (BitVec.eq_of_toNat_eq e)
  rw [State.setModeRequest, State.onStore_some hst]
  exact (if_neg n1).trans (if_neg n2)

theorem State.setModeRequest_running (hst : t.store = some st) (hh : st.holiday = true) :
    t.setModeRequest 1 = (t.leaveHoliday st).answer .ok 1 := by
  rw [State.setModeRequest, State.onStore_some hst]
  exact if_pos hh

theorem State.setModeRequest_holiday (hst : t.store = some st) (hh : st.holiday = false) :
    t.setModeRequest 2 = (t.enterHoliday st).answer .ok 2 := by
  rw [State.setModeRequest, State.onStore_some hst]
  exact if_neg (c := st.holiday = true) (by rw [hh]; decide)

theorem State.setModeRequest_same (hst : t.store = some st) (h : p0 = 1 ∧ st.holiday = false ∨ p0 = 2 ∧ st.holiday = true) :
    t.setModeRequest p0 = t.answer .ok := by
  rw [State.setModeRequest, State.onStore_some hst]
  obtain ⟨rfl, hh⟩ | ⟨rfl, hh⟩ := h
  · exact if_neg (c := st.holiday = true) (by rw [hh]; decide)
  · exact if_pos hh

end

/-- The state with its store in HOLIDAY, its grants as they were. -/
def State.inHoliday (s : State) (st : Store) : State := { s with store := some { st with holiday := true } }

/-- The ends of the NORMAL grants leave a hygiene run alone, and set GRANT_ENDED where there is one (R102). -/
theorem State.retireNormal_notices (s : State) :
    (s.retireAll .mode s.arbiter.normalPorts).hygiene = s.hygiene
      ∧ ((∃ p g n, s.grant p = some g ∧ g.cls = .normal n) →
          (s.retireAll .mode s.arbiter.normalPorts).notices = s.notices.raise .grantEnded)
      ∧ ((∀ p g n, s.grant p = some g → g.cls ≠ .normal n) →
          (s.retireAll .mode s.arbiter.normalPorts).notices = s.notices) := by
  obtain ⟨hygiene, notices⟩ := State.retireAll_notices (r := .mode) rfl nofun s.arbiter.normalPorts s
  have holds : ¬s.FailsIn s.arbiter.normalPorts := by
    rintro ⟨-, p, hp, k, hk, hcls⟩
    obtain ⟨g, n, hg, hn⟩ := Arbiter.mem_normalPorts.mp hp
    rw [show s.arbiter.grants.get p = some k from hk] at hg
    cases hg
    exact nomatch hcls.symm.trans hn
  rw [if_neg holds] at hygiene
  simp only [if_neg holds] at notices
  refine ⟨hygiene, fun ⟨p, g, n, hg, hn⟩ => notices.trans (if_pos ?_), fun none_ => notices.trans (if_neg ?_)⟩
  · exact ⟨p, Arbiter.mem_normalPorts.mpr ⟨g, n, hg, hn⟩, by rw [hg]; exact Option.some_ne_none g⟩
  · rintro ⟨p, hp, -⟩
    obtain ⟨g, n, hg, hn⟩ := Arbiter.mem_normalPorts.mp hp
    exact none_ p g n hg hn

/-- Marks are removed from NORMAL grants alone. -/
theorem State.removeMarks_of_noNormal {s : State} (h : ∀ p g n, s.grant p = some g → g.cls ≠ .normal n) :
    s.removeMarks = s := by
  have same : s.removeMarks.arbiter.grants = s.arbiter.grants := PerPort.ext_get fun p => by
    refine (s.grant_removeMarks p).trans ?_
    cases hg : s.grant p with
    | none => exact hg.symm
    | some g => rw [Option.map_some, Grant.changeNormal_of_other fun n => h p g n hg]; exact hg.symm
  exact congrArg (fun gs => { s with arbiter := { s.arbiter with grants := gs } }) same

theorem State.popResume_of_nil {s : State} (h : s.arbiter.resume = []) : s.popResume = s := by
  rw [State.popResume, h]
  rfl

/-- Settles O18: entering HOLIDAY is the ends of the NORMAL grants, and leaving it one comparison of the hot volume. -/
theorem setModeActsOnTheArbiter : Obligations.SetModeActsOnTheArbiter := by
  intro s t p0 p1 st h hst
  have reply {u : State} {status : Status} {value : Nat} (hr : t.setModeRequest p0 = u.answer status value) :
      exec (.setMode 0 p0 p1) s
        = .next (u.sent (shortAnswer 1 0 (BitVec.ofNat 8 status.code) (BitVec.ofNat 8 value))) :=
    congrArg Host.Outcome.next (State.shortRequest_of_reply 1 (by decide) h hr)
  refine ⟨fun h1 h2 => reply (State.setModeRequest_range hst h1 h2), fun hs => reply (State.setModeRequest_same hst hs),
    fun h2 hh => ?holiday, fun h1 hh calm list noNormal => ?running⟩
  case holiday =>
    subst h2
    let a := t.inHoliday st
    let e := a.retireAll .mode a.arbiter.normalPorts
    have figures : a.KeepsFigures e := a.keepsFigures_retireAll .mode _
    have same : e = { a with arbiter := e.arbiter, hygiene := e.hygiene, notices := e.notices } :=
      (a.touches_retireAll .mode _).same figures.choices
    obtain ⟨hygiene, someEnd, noEnd⟩ := State.retireNormal_notices a
    have normal {p : PortId} {g : Grant} {n : NormalGrant} (hg : t.grant p = some g) (hn : g.cls = .normal n) :
        p ∈ a.arbiter.normalPorts := Arbiter.mem_normalPorts.mpr ⟨g, n, hg, hn⟩
    have other {p : PortId} (hp : ∀ g n, t.grant p = some g → g.cls ≠ .normal n) : p ∉ a.arbiter.normalPorts := fun hm => by
      obtain ⟨g, n, hg, hn⟩ := Arbiter.mem_normalPorts.mp hm
      exact hp g n hg hn
    refine ⟨t.enterHoliday st, reply (State.setModeRequest_holiday hst hh), ?_, ?_, fun p g n hg hn => ⟨?_, ?_, ?_⟩,
      fun p hp => ⟨?_, ?_, ?_⟩, fun p g n hg hn => someEnd ⟨p, g, n, hg, hn⟩, noEnd⟩
    · have kept : e = { a with arbiter := e.arbiter, notices := e.notices } := by
        rw [hygiene] at same
        exact same
      exact congrArg (fun x : State => { x with arbiter := { e.arbiter with comfortEmergency := false } }) kept
    · exact congrArg (fun x : Arbiter => { x with comfortEmergency := false }) figures.arbiter_eq
    · exact (State.grant_retireAll .mode p _ a).trans (if_pos (normal hg hn))
    · exact State.port_retireAll_of_grant (s := a) hg .mode (normal hg hn)
    · exact fun hm => ((State.mem_resume_retireAll .mode p _ a).mp hm).2
        ⟨normal hg hn, by rw [show a.grant p = some g from hg]; exact Option.some_ne_none g⟩
    · exact (State.grant_retireAll .mode p _ a).trans (if_neg (other hp))
    · exact State.port_retireAll_other a (other hp) .mode
    · exact (State.mem_resume_retireAll .mode p _ a).trans (and_iff_left fun hm => other hp hm.1)
  case running =>
    subst h1
    let r : State := { t with store := some { st with holiday := false } }
    refine ⟨fun warm => ?_, fun low => ?_⟩
    · have same : t.leaveHoliday st = r := by
        refine (State.compareComfort_of_warm (s := r) rfl rfl (Nat.not_lt.mpr warm)).trans (if_neg ?_)
        rw [show r.arbiter.comfortEmergency = false from calm]
        decide
      exact reply ((State.setModeRequest_running hst hh).trans (by rw [same]))
    · have entered : t.leaveHoliday st = r.emergencySet := by
        refine (State.compareComfort_of_low (s := r) rfl rfl low).trans ((if_neg ?_).trans ?_)
        · rw [show r.arbiter.comfortEmergency = false from calm]
          decide
        · rw [State.enterEmergency_eq, State.removeMarks_of_noNormal (s := r.emergencySet) noNormal,
            State.popResume_of_nil (s := r.emergencySet) list]
      exact reply ((State.setModeRequest_running hst hh).trans (by rw [entered]))

/-! ### DRAW -/

theorem le_length (w n : Nat) : (le w n).length = w := by
  induction w generalizing n with
  | zero => rfl
  | succ w ih => rw [le, List.length_cons, ih]

theorem cut_zero (l : List Stratum) : cut 0 l = ([], l) := by
  cases l with
  | nil => rfl
  | cons s rest => simp [cut]

theorem State.drawRequest_of_nothing {t : State} {st : Store} {p0 p1 : Byte} (hst : t.store = some st)
    (h : word16 p0 p1 = 0) : t.drawRequest p0 p1 = t.answer .ok 0 [0, 0, 0, 0, 0, 0, 0, 0] := by
  rw [State.drawRequest, State.onStore_some hst]
  exact if_pos h

/-- A draw of 1 dL or more, clamped to V with DRAW_CLAMPED. -/
theorem State.drawRequest_of_some {t : State} {st : Store} {p0 p1 : Byte} (hst : t.store = some st)
    (h : word16 p0 p1 ≠ 0) : t.drawRequest p0 p1 =
      (t.raiseIf (decide (st.cfg.volume < word16 p0 p1)) .drawClamped).carryOutDraw st (min (word16 p0 p1) st.cfg.volume) := by
  rw [State.drawRequest, State.onStore_some hst]
  refine (if_neg h).trans ?_
  by_cases hc : st.cfg.volume < word16 p0 p1
  · rw [if_pos hc, decide_eq_true hc, Nat.min_eq_right hc.le]
    rfl
  · rw [if_neg hc, decide_eq_false hc, Nat.min_eq_left (Nat.not_lt.mp hc)]
    rfl

/-- What a draw carried out leaves before its report. -/
theorem State.drawn_eq (t : State) (st : Store) (c : Bool) (drawn : Nat) :
    ((t.raiseIf c .drawClamped).raiseIf (drawList st.cfg st.mains drawn st.strata).forced .forcedMerge).withStrata st
        (drawList st.cfg st.mains drawn st.strata).strata
      = { t with
          store := some { st with strata := (drawList st.cfg st.mains drawn st.strata).strata }
          notices := ((t.raiseIf c .drawClamped).raiseIf (decide (31 < st.strata.length)) .forcedMerge).notices } := by
  have forced : (drawList st.cfg st.mains drawn st.strata).forced = decide (31 < st.strata.length) :=
    makeRoom_flag (by decide) st.strata
  rw [forced]
  cases c <;> cases decide (31 < st.strata.length) <;> rfl

/-- Settles O19: the draw of the list, its flags and its answer; a draw of V leaves one stratum at mains. -/
theorem drawTakesTheTopAndFillsFromMains : Obligations.DrawTakesTheTopAndFillsFromMains := by
  intro s t p0 p1 st h hst asked drawn room parts mean energy
  have reply {u : State} {body : List Byte} (hb : body.length < 65534) (hr : t.drawRequest p0 p1 = u.answer .ok 0 body) :
      exec (.draw 0 p0 p1) s = .next (u.sent (longAnswer 5 0 0 0 body)) :=
    congrArg Host.Outcome.next (State.shortRequest_of_longReply 5 (by decide) h hr hb)
  refine ⟨fun h0 => reply (by decide) (State.drawRequest_of_nothing hst h0), fun h1 => ?some, fun hv total hpos => ?whole⟩
  case some =>
    refine reply ?_ ((State.drawRequest_of_some hst (Nat.one_le_iff_ne_zero.mp h1)).trans ?_)
    · rw [List.length_append, List.length_append, le_length, le_length, le_length]
      decide
    · rw [State.carryOutDraw]
      rw [State.drawn_eq]
      rfl
  case whole =>
    have all : drawn = st.cfg.volume := Nat.min_eq_right hv
    have kept : volumeOf room.1 = st.cfg.volume := (makeRoom_spec 1 (by decide) st.strata).1.trans total
    have whole : parts = ([], room.1) := by
      change cut (volumeOf room.1 - drawn) room.1 = _
      rw [all, kept, Nat.sub_self, cut_zero]
    rw [whole, all]
    exact ⟨rfl, rfl, rfl⟩

/-! ### The Store Model's timers -/

theorem minuteFrom_length (cfg : StoreConfig) : ∀ (base : Nat) (l : List Stratum), (minuteFrom cfg base l).length = l.length
  | _, [] => rfl
  | base, s :: rest => congrArg Nat.succ (minuteFrom_length cfg (base + s.volume) rest)

/-- A hygiene minute changes each record by the base it stands on. -/
theorem minuteFrom_getElem? (cfg : StoreConfig) (x : Stratum) (above : List Stratum) : ∀ (base : Nat) (below : List Stratum),
    (minuteFrom cfg base (below ++ x :: above))[below.length]? =
      some (if cfg.hygieneFloor < base + volumeOf below + x.volume then hygieneMinute cfg x else x)
  | base, [] => rfl
  | base, s :: below => by
    have rest := minuteFrom_getElem? cfg x above (base + s.volume) below
    rw [volumeOf_cons, ← Nat.add_assoc base]
    exact rest

/-- Settles O21: each expiry is one operation on the list with its timer restarted. -/
theorem storeTimersRunTheirOperations : Obligations.StoreTimersRunTheirOperations := by
  refine ⟨fun s st hrun hst => ⟨?loss, ?minute⟩, fun s hst => ⟨?noLoss, ?noMinute⟩,
    fun cfg below above x => ⟨?length, ?record⟩⟩
  case loss =>
    refine congrArg Host.Outcome.next ((State.whenRunning_of_running hrun _).trans ?_)
    have timer : st.cfg.lossInterval * Config.minute = st.cfg.lossInterval * 60 * 32768 := (Nat.mul_assoc _ 60 32768).symm
    simp only [State.expireLossInterval, hst, timer]
    rfl
  case minute =>
    refine congrArg Host.Outcome.next ((State.whenRunning_of_running hrun _).trans ?_)
    simp only [State.expireHygieneMinute, hst]
    rfl
  case noLoss =>
    exact congrArg Host.Outcome.next (State.whenRunning_of_same (by simp only [State.expireLossInterval, hst]))
  case noMinute =>
    exact congrArg Host.Outcome.next (State.whenRunning_of_same (by simp only [State.expireHygieneMinute, hst]))
  case length => exact minuteFrom_length cfg 0 _
  case record =>
    rw [minuteFrom_getElem?, Nat.zero_add]
    rfl

end Sys2Proof.Machine
end

section
/-!
PROOF. The checks of a message and the answers to one that a check stops, or that finds no store (R167 to R170, R176).
-/

namespace Sys2Proof.Machine

/-! ### The kinds table -/

/-- A kind's channels, as the table gives them and as the statements list them (R168). -/
theorem kindEntry_admits {k : Nat} {e : KindEntry} (h : kindEntry k = some e) (ch : Channel) :
    e.allowed.admits ch = true ↔ ChannelAllowed k ch := by
  unfold kindEntry at h
  split at h <;> cases h <;> simp [Allowed.admits, ChannelAllowed]

theorem kindEntry_payload {k n : Nat} {e : KindEntry} (h : kindEntry k = some e) (hn : payloadLength k = some n) :
    e.payload = some n := by
  unfold kindEntry at h
  split at h <;> cases h <;> exact hn

theorem kindEntry_of_assigned {k : Nat} (h : k < 22) : ∃ e, kindEntry k = some e := by
  interval_cases k <;> exact ⟨_, rfl⟩

theorem kindEntry_of_unassigned {k : Nat} (h : 22 ≤ k) : kindEntry k = none := by
  obtain ⟨j, rfl⟩ := Nat.exists_eq_add_of_le' h
  rfl

/-- The messages answered with a body (R168). -/
theorem Message.longAnswer_iff (m : Message) :
    m.longAnswer = true ↔ m.channel ≠ 7 ∧ m.kind.toNat ∈ [0, 5, 12, 15, 19, 20, 21] := by
  obtain ⟨kind, ch, content⟩ := m
  rw [Message.longAnswer]
  by_cases hk : kind.toNat < 22
  · generalize kind.toNat = k at hk
    interval_cases k <;> simp [kindEntry]
  · rw [kindEntry_of_unassigned (Nat.not_lt.mp hk)]
    refine iff_of_false Bool.false_ne_true fun h => hk ?_
    simp only [List.mem_cons, List.not_mem_nil, or_false] at h
    omega

/-! ### A check that fails -/

/-- The answer to a message that a check stops (R167, R168). -/
theorem State.send_refusal (s : State) (m : Message) (status : Status) :
    s.send m { status := status } = s.sent (refusalBytes m (BitVec.ofNat 8 status.code)) := by
  rw [refusalBytes]
  split
  · next h => exact State.send_long ((Message.longAnswer_iff m).mpr h) s _ (by simp)
  · next h => exact State.send_short (Bool.eq_false_iff.mpr (mt (Message.longAnswer_iff m).mp h)) s _

/-- A request that is taken and fails a check. -/
theorem exec_of_failed {c : Instr} {m : Message} {s t : State} (hm : c.message = some m) (ht : s.Taking m t)
    {status : Status} (h : m.failedCheck = some status) :
    exec c s = .next (t.sent (refusalBytes m (BitVec.ofNat 8 status.code))) := by
  rw [exec_request hm, State.request_taken ht, State.handle_failed h, State.send_refusal]

section
variable {kind : BitVec 5} {ch : Channel} {p : List Byte}

theorem failedCheck_marked (n : BitVec 16) : Message.failedCheck ⟨kind, ch, .long (.marked n)⟩ = some .errLength := rfl

theorem failedCheck_of_badChecksum {k : BitVec 16} (h1 : 1 ≤ p.length) (h2 : p.length ≤ 1024) (hk : k ≠ crc16 p) :
    Message.failedCheck ⟨kind, ch, .long (.full p k)⟩ = some .errCheck := by
  have count : Message.badCount ⟨kind, ch, .long (.full p k)⟩ = false :=
    Bool.or_eq_false_iff.mpr ⟨beq_false_of_ne (Nat.one_le_iff_ne_zero.mp h1), decide_eq_false (Nat.not_lt.mpr h2)⟩
  have checksum : Message.badChecksum ⟨kind, ch, .long (.full p k)⟩ = true := bne_iff_ne.mpr hk
  rw [Message.failedCheck, count, checksum]
  rfl

theorem failedCheck_of_unassigned (h1 : 1 ≤ p.length) (h2 : p.length ≤ 1024) (hk : 22 ≤ kind.toNat) :
    Message.failedCheck ⟨kind, ch, .long (.full p (crc16 p))⟩ = some .errKind := by
  rw [failedCheck_long _ _ _ h1 h2]
  simp only [kindEntry_of_unassigned hk]

theorem failedCheck_of_shortChannel {p0 p1 : Byte} (hk : kind.toNat < 22) (hc : ¬ChannelAllowed kind.toNat ch) :
    Message.failedCheck ⟨kind, ch, .short p0 p1⟩ = some .errChannel := by
  obtain ⟨e, he⟩ := kindEntry_of_assigned hk
  have out : e.allowed.admits ch = false := Bool.eq_false_iff.mpr (mt (kindEntry_admits he ch).mp hc)
  simp [Message.failedCheck, Message.badCount, Message.badChecksum, he, out]

theorem failedCheck_of_longChannel (h1 : 1 ≤ p.length) (h2 : p.length ≤ 1024) (hk : kind.toNat < 22)
    (hc : ¬ChannelAllowed kind.toNat ch) : Message.failedCheck ⟨kind, ch, .long (.full p (crc16 p))⟩ = some .errChannel := by
  obtain ⟨e, he⟩ := kindEntry_of_assigned hk
  have out : e.allowed.admits ch = false := Bool.eq_false_iff.mpr (mt (kindEntry_admits he ch).mp hc)
  rw [failedCheck_long _ _ _ h1 h2]
  simp only [he, out, Bool.not_false, if_true]

theorem failedCheck_of_length {n : Nat} (h1 : 1 ≤ p.length) (h2 : p.length ≤ 1024)
    (hn : payloadLength kind.toNat = some n) (hc : ChannelAllowed kind.toNat ch) (hl : p.length ≠ n) :
    Message.failedCheck ⟨kind, ch, .long (.full p (crc16 p))⟩ = some .errLength := by
  have hk : kind.toNat < 22 := by
    refine Nat.lt_of_not_le fun h => ?_
    obtain ⟨j, hj⟩ := Nat.exists_eq_add_of_le' h
    rw [hj] at hn
    exact nomatch hn
  obtain ⟨e, he⟩ := kindEntry_of_assigned hk
  have admitted : e.allowed.admits ch = true := (kindEntry_admits he ch).mpr hc
  have length : Message.badLength ⟨kind, ch, .long (.full p (crc16 p))⟩ e = true := by
    rw [Message.badLength, kindEntry_payload he hn]
    exact bne_iff_ne.mpr hl
  rw [failedCheck_long _ _ _ h1 h2]
  simp only [he, admitted, length, Bool.not_true, Bool.false_eq_true, if_false, if_true]

theorem failedCheck_of_selector {b : Byte} (hb : 4 < b.toNat) :
    Message.failedCheck ⟨21, 0, .long (.full [b] (crc16 [b]))⟩ = some .errRange := by
  rw [failedCheck_long _ _ _ (by simp) (by simp)]
  simp [kindEntry, Allowed.admits, Message.badLength, Message.badSelector, hb]

end

theorem message_of_short {c : Instr} {k : BitVec 5} {ch : Channel} {p0 p1 : Byte}
    (h : c.message = some ⟨k, ch, .short p0 p1⟩) : k.toNat < 16 := by
  cases c <;> cases h <;> decide

/-- Settles O14: the first check that fails, in each of its seven places, and the answer to it. -/
theorem linkChecksAnswerInOrder : Obligations.LinkChecksAnswerInOrder := by
  intro c m s t hm ht
  obtain ⟨kind, ch, content⟩ := m
  refine ⟨fun n hc => ?_, fun p k hc h1 h2 hk => ?_, fun p hc h1 h2 hk => ?_, fun p0 p1 hc hn => ?_,
    fun p hc h1 h2 hk hn => ?_, fun p n hc h1 h2 hp ha hl => ?_, fun b hc hk h0 hb => ?_⟩
  all_goals cases hc
  · exact exec_of_failed hm ht (failedCheck_marked n)
  · exact exec_of_failed hm ht (failedCheck_of_badChecksum h1 h2 hk)
  · exact exec_of_failed hm ht (failedCheck_of_unassigned h1 h2 hk)
  · exact exec_of_failed hm ht (failedCheck_of_shortChannel ((message_of_short hm).trans (by decide)) hn)
  · exact exec_of_failed hm ht (failedCheck_of_longChannel h1 h2 hk hn)
  · exact exec_of_failed hm ht (failedCheck_of_length h1 h2 hp ha hl)
  · cases hk
    cases h0
    exact exec_of_failed hm ht (failedCheck_of_selector hb)

/-! ### A message that passes every check -/

/-- What a message that passes every check is (R167). -/
structure Message.Passes (m : Message) (e : KindEntry) : Prop where
  entry : kindEntry m.kind.toNat = some e
  count : m.badCount = false
  checksum : m.badChecksum = false
  channel : e.allowed.admits m.channel = true
  length : m.badLength e = false
  selector : m.badSelector = false

theorem Message.passes_of_failedCheck {m : Message} (h : m.failedCheck = none) : ∃ e, Message.Passes m e := by
  unfold Message.failedCheck at h
  split at h
  · exact nomatch h
  · next count =>
    split at h
    · exact nomatch h
    · next checksum =>
      split at h
      · exact nomatch h
      · next e entry =>
        split at h
        · exact nomatch h
        · next channel =>
          split at h
          · exact nomatch h
          · next length =>
            split at h
            · exact nomatch h
            · next selector =>
              simp only [Bool.not_eq_true', Bool.not_eq_true, Bool.not_eq_false] at count checksum channel length selector
              exact ⟨e, entry, count, checksum, channel, length, selector⟩

theorem PortId.ofNumber_of_channel : ∀ {ch : Channel}, Allowed.ports.admits ch = true →
    (PortId.ofNumber ch.toNat).isSome = true := by decide

/-- A channel a kind is allowed on is never 7. -/
theorem Allowed.admits_ne_seven {a : Allowed} {ch : Channel} (h : a.admits ch = true) : ch ≠ 7 := by
  rintro rfl
  cases a <;> exact nomatch h

/-- A long request that passes every check has its payload, of its kind's length. -/
theorem Message.Passes.long {kind : BitVec 5} {ch : Channel} {body : LongBody} {e : KindEntry}
    (h : Message.Passes ⟨kind, ch, .long body⟩ e) : ∃ p k, body = .full p k ∧ e.payload = some p.length := by
  cases body with
  | marked n => exact nomatch h.count
  | full p k =>
    refine ⟨p, k, rfl, ?_⟩
    have length := h.length
    unfold Message.badLength at length
    cases hp : e.payload with
    | none => rw [hp] at length; exact nomatch length
    | some n =>
      rw [hp] at length
      rw [bne_eq_false_iff_eq.mp length]

/-- The body of an answer NOT_CONFIGURED, by its kind (R57, R99). -/
def unconfiguredBody (kind : Nat) : List Byte :=
  if kind = 20 then [0, 0, 0, 0, 0, 0, 0, 0, 0, 0, 0, 0] else if kind = 19 then [0xFF, 0, 0, 0] else []

section
variable {t : State}

theorem State.onPort_channel {ch : Channel} (h : Allowed.ports.admits ch = true) (f : PortId → State → Reply) :
    ∃ p, t.onPort ch f = f p t := by
  obtain ⟨p, hp⟩ := Option.isSome_iff_exists.mp (PortId.ofNumber_of_channel h)
  exact ⟨p, by simp only [State.onPort, hp]⟩

theorem State.onConfiguredPort_unconfigured {ch : Channel} (h : Allowed.ports.admits ch = true) (hst : t.store = none)
    (f : PortId → PortConfig → Store → State → Reply) : t.onConfiguredPort ch f = t.answer .notConfigured := by
  obtain ⟨p, hp⟩ := t.onPort_channel h _
  exact hp.trans (State.onStore_none hst _)

theorem State.requestChargeRequest_unconfigured {ch : Channel} (h : Allowed.ports.admits ch = true) (hst : t.store = none)
    (payload : List Byte) : t.requestChargeRequest ch payload = t.answer .notConfigured 0 [0xFF, 0, 0, 0] := by
  obtain ⟨p, hp⟩ := t.onPort_channel h _
  refine hp.trans ?_
  simp only [hst]
  rfl

theorem State.depositRequest_unconfigured {ch : Channel} (h : Allowed.ports.admits ch = true) (hst : t.store = none)
    (payload : List Byte) :
    t.depositRequest ch payload = t.answer .notConfigured 0 [0, 0, 0, 0, 0, 0, 0, 0, 0, 0, 0, 0] := by
  obtain ⟨p, hp⟩ := t.onPort_channel h _
  refine hp.trans ?_
  simp only [hst]
  rfl

theorem State.readRequest_unconfigured {b : Byte} (hb : b.toNat ≤ 4) (hst : t.store = none) :
    t.readRequest [b] = t.answer .notConfigured := by
  unfold State.readRequest
  split
  · exact State.onStore_none hst _
  · exact State.onStore_none hst _
  · exact State.onStore_none hst _
  · exact State.onStore_none hst _
  · exact State.onStore_none hst _
  · next n0 n1 n2 n3 n4 =>
    have value : field8 [b] 0 = b.toNat := rfl
    simp only [imp_false, value] at n0 n1 n2 n3 n4
    omega

/-- The READ rows are of one kind, whatever their selector. -/
theorem Message.Passes.read {ch : Channel} {body : LongBody} {e : KindEntry} (h : Message.Passes ⟨21, ch, .long body⟩ e) :
    ∃ b k, body = .full [b] k ∧ b.toNat ≤ 4 := by
  obtain ⟨p, k, rfl, length⟩ := h.long
  cases h.entry
  obtain ⟨b, rfl⟩ := List.length_eq_one_iff.mp (Option.some.inj length).symm
  refine ⟨b, k, rfl, Nat.not_lt.mp fun hb => ?_⟩
  have bad : Message.badSelector ⟨21, ch, .long (.full [b] k)⟩ = true := decide_eq_true hb
  exact nomatch bad.symm.trans h.selector

end

/-- What each owner answers while there is no store, but for the five kinds taken then (R176). -/
theorem Instr.owner_unconfigured {c : Instr} {m : Message} {e : KindEntry} {t : State} (hm : c.message = some m)
    (passes : Message.Passes m e) (hst : t.store = none) (hk : m.kind.toNat ∉ [0, 12, 13, 14, 16]) :
    c.owner t = t.answer .notConfigured 0 (unconfiguredBody m.kind.toNat) := by
  cases c <;> cases hm
  case identify | notices | noticeEnable | reset => exact absurd hk (by simp)
  case configureStore => exact absurd hk (by simp)
  case unassignedKind k ch body =>
    have hk : 22 ≤ (BitVec.ofNat 5 (22 + k.val)).toNat := by
      rw [BitVec.toNat_ofNat, Nat.mod_eq_of_lt (by omega)]
      omega
    exact absurd ((kindEntry_of_unassigned hk).symm.trans passes.entry) (Option.some_ne_none e).symm
  case keepalive | release =>
    cases passes.entry
    exact State.onConfiguredPort_unconfigured passes.channel hst _
  case configurePort ch body | configureProbe ch body =>
    obtain ⟨p, k, rfl, -⟩ := passes.long
    simp only [Instr.owner, LongBody.owned, State.configurePortRequest, State.configureProbeRequest, State.onStore_none hst]
    rfl
  case requestCharge ch body =>
    obtain ⟨p, k, rfl, -⟩ := passes.long
    cases passes.entry
    exact State.requestChargeRequest_unconfigured passes.channel hst p
  case deposit ch body =>
    obtain ⟨p, k, rfl, -⟩ := passes.long
    cases passes.entry
    exact State.depositRequest_unconfigured passes.channel hst p
  case readStrata ch body | readPorts ch body | readGrants ch body | readProbes ch body | readSummary ch body =>
    obtain ⟨b, k, rfl, hb⟩ := passes.read
    exact State.readRequest_unconfigured hb hst
  all_goals
    simp only [Instr.owner, State.setModeRequest, State.setForecastRequest, State.setMainsRequest, State.setAmbientRequest,
      State.drawRequest, State.revokeRequest, State.scanRequest, State.probeClearRequest, State.reseedRequest,
      State.profileRequest, State.onStore_none hst]
    rfl

/-- Settles O15: each owner's answer, sent in the form of its kind. -/
theorem unconfiguredRequestsChangeNothing : Obligations.UnconfiguredRequestsChangeNothing := by
  intro c m s t hm ht hpass hst hk
  obtain ⟨e, passes⟩ := Message.passes_of_failedCheck hpass
  have h7 : m.channel ≠ 7 := Allowed.admits_ne_seven passes.channel
  have answered : exec c s
      = .next (t.send m { status := .notConfigured, value := 0, body := unconfiguredBody m.kind.toNat }) := by
    rw [exec_request hm, State.request_taken ht, State.handle_passed hpass, Instr.owner_unconfigured hm passes hst hk]
    rfl
  have long (body : List Byte) (hkind : m.kind.toNat ∈ [0, 5, 12, 15, 19, 20, 21])
      (hbody : unconfiguredBody m.kind.toNat = body) (hl : body.length < 65534) :
      exec c s = .next (t.sent (longAnswer m.kind m.channel 2 0 body)) := by
    rw [answered, hbody]
    exact congrArg Host.Outcome.next (State.send_long ((Message.longAnswer_iff m).mpr ⟨h7, hkind⟩) t _ hl)
  refine ⟨fun h => long [] ?_ ?_ (by decide), fun h => long _ ?_ ?_ (by decide), fun h => long _ ?_ ?_ (by decide), fun h => ?_⟩
  · simp only [List.mem_cons, List.not_mem_nil, or_false] at h ⊢
    omega
  · simp only [List.mem_cons, List.not_mem_nil, or_false] at h
    rw [unconfiguredBody, if_neg (by omega), if_neg (by omega)]
  · rw [h]; decide
  · rw [h]; rfl
  · rw [h]; decide
  · rw [h]; rfl
  · have short : m.longAnswer = false := by
      refine Bool.eq_false_iff.mpr (mt (Message.longAnswer_iff m).mp fun hl => ?_)
      simp only [List.mem_cons, List.not_mem_nil, or_false] at h hk hl
      omega
    rw [answered]
    exact congrArg Host.Outcome.next (State.send_short short t _)

end Sys2Proof.Machine
end

section
/-!
PROOF. Reception: the framing table (R164, R165), the byte that ends a message, the bytes of a whole message, and what every
step keeps of the Link Controller.
-/

namespace Sys2Proof.Machine

/-! ### Fields of received bytes -/

theorem ident_kind (k : BitVec 5) (ch : Channel) : identKind (ident k ch) = k := by
  revert k ch
  decide

theorem ident_channel (k : BitVec 5) (ch : Channel) : identChannel (ident k ch) = ch := by
  revert k ch
  decide

theorem identKind_eq (b : Byte) : identKind b = BitVec.ofNat 5 (b.toNat / 8) := by
  simp [identKind, BitVec.extractLsb', Nat.shiftRight_eq_div_pow]

theorem identChannel_eq (b : Byte) : identChannel b = BitVec.ofNat 3 b.toNat := by
  simp [identChannel, BitVec.extractLsb']

theorem identKind_toNat (b : Byte) : (identKind b).toNat = b.toNat / 8 := by
  rw [identKind_eq, BitVec.toNat_ofNat]
  exact Nat.mod_eq_of_lt (by omega)

theorem mask16_toNat (lo hi : Byte) : (mask16 lo hi).toNat = word16 lo hi := by
  rw [mask16, BitVec.toNat_append, ← Nat.shiftLeft_add_eq_or_of_lt lo.isLt, Nat.shiftLeft_eq, word16]
  omega

theorem mask16_eq (lo hi : Byte) : mask16 lo hi = BitVec.ofNat 16 (lo.toNat + 256 * hi.toNat) := by
  have value := mask16_toNat lo hi
  rw [word16] at value
  rw [← value, BitVec.ofNat_toNat, BitVec.setWidth_eq]

theorem mask16_bytes (c : BitVec 16) : mask16 (lowByte c) (highByte c) = c := by
  refine BitVec.eq_of_toNat_eq ((mask16_toNat _ _).trans ?_)
  simp only [word16, lowByte, highByte, BitVec.toNat_setWidth, BitVec.toNat_ushiftRight, Nat.shiftRight_eq_div_pow]
  omega

theorem word16_bytes (n : Nat) (h : n < 65536) :
    word16 (lowByte (BitVec.ofNat 16 n)) (highByte (BitVec.ofNat 16 n)) = n := by
  rw [← mask16_toNat, mask16_bytes, BitVec.toNat_ofNat, Nat.mod_eq_of_lt h]

/-! ### Bytes by the framing state -/

section
variable {s : State}

theorem exec_rxByte (h : s.pins.resetLow = false) (b : Byte) : exec (.rxByte b) s = .next (s.receive b) :=
  congrArg Host.Outcome.next (State.whenRunning_of_running h _)

theorem State.receive_of_idle (h : s.link.framing = .idle) (b : Byte) : s.receive b = s.framed (.header [b]) := by
  simp only [State.receive, h]

theorem State.receive_of_header {bs : List Byte} (h : s.link.framing = .header bs) (hl : bs.length < 3) (b : Byte) :
    s.receive b = s.framed (.header (bs ++ [b])) := by
  unfold State.receive
  split
  · next e => exact nomatch h.symm.trans e
  · next e =>
    cases h.symm.trans e
    exact absurd hl (Nat.lt_irrefl 3)
  · next e => cases h.symm.trans e; rfl
  · next e => exact nomatch h.symm.trans e
  · next e => exact nomatch h.symm.trans e

theorem State.receive_of_fullHeader {b0 b1 b2 : Byte} (h : s.link.framing = .header [b0, b1, b2]) (b : Byte) :
    s.receive b = s.headerDone b0 b1 b2 b := by
  simp only [State.receive, h]

theorem State.receive_of_payload {k : BitVec 5} {ch : Channel} {n : Nat} {bs : List Byte}
    (h : s.link.framing = .payload k ch n bs) (b : Byte) : s.receive b = s.payloadByte k ch n (bs ++ [b]) := by
  simp only [State.receive, h]

theorem State.receive_of_hunt (h : s.link.framing = .hunt) (b : Byte) : s.receive b = s.framed .hunt := by
  simp only [State.receive, h]

theorem State.payloadByte_held {k : BitVec 5} {ch : Channel} {n : Nat} {bs : List Byte} (h : bs.length < n + 2) :
    s.payloadByte k ch n bs = s.framed (.payload k ch n bs) := if_pos h

/-- The last checksum byte (R164). -/
theorem State.payloadByte_last (k : BitVec 5) (ch : Channel) (p : List Byte) (lo hi : Byte) :
    s.payloadByte k ch p.length (p ++ [lo] ++ [hi])
      = (s.framed .idle).offer ⟨k, ch, .long (.full p (mask16 lo hi))⟩ := by
  have ended : ¬(p ++ [lo] ++ [hi]).length < p.length + 2 := by simp
  rw [State.payloadByte, if_neg ended]
  simp [List.getD_eq_getElem?_getD]

theorem State.headerDone_of_bad {b0 b1 b2 b : Byte} (h : b ≠ crc8 [b0, b1, b2]) :
    s.headerDone b0 b1 b2 b = (s.raise .linkError).framed .hunt := if_pos h

theorem State.headerDone_of_short {b0 b1 b2 : Byte} (h : (identKind b0).toNat < 16) :
    s.headerDone b0 b1 b2 (crc8 [b0, b1, b2])
      = (s.framed .idle).offer ⟨identKind b0, identChannel b0, .short b1 b2⟩ := by
  rw [State.headerDone, if_neg (not_not_intro rfl)]
  exact if_pos h

theorem State.headerDone_of_marked {b0 b1 b2 : Byte} (h : ¬(identKind b0).toNat < 16)
    (hc : word16 b1 b2 = 0 ∨ 1024 < word16 b1 b2) : s.headerDone b0 b1 b2 (crc8 [b0, b1, b2])
      = (s.framed .hunt).offer ⟨identKind b0, identChannel b0, .long (.marked (mask16 b1 b2))⟩ := by
  rw [State.headerDone, if_neg (not_not_intro rfl)]
  exact (if_neg h).trans (if_pos hc)

theorem State.headerDone_of_long {b0 b1 b2 : Byte} (h : ¬(identKind b0).toNat < 16)
    (hc : ¬(word16 b1 b2 = 0 ∨ 1024 < word16 b1 b2)) : s.headerDone b0 b1 b2 (crc8 [b0, b1, b2])
      = s.framed (.payload (identKind b0) (identChannel b0) (word16 b1 b2) []) := by
  rw [State.headerDone, if_neg (not_not_intro rfl)]
  exact (if_neg h).trans (if_neg hc)

/-- A framing fault outside HUNT (R164). -/
theorem State.receiveFault_of_partial (h : s.link.framing ≠ .hunt) :
    s.receiveFault = (s.raise .linkError).framed .hunt := by
  unfold State.receiveFault
  split
  · next e => exact absurd e h
  · rfl
  · rfl
  · rfl

theorem State.receiveFault_of_hunt (h : s.link.framing = .hunt) : s.receiveFault = s.framed .hunt := by
  simp only [State.receiveFault, h]

/-- The stall timer runs out with no message under way (R164). -/
theorem State.stallExpired_of_quiet (h : s.link.framing = .hunt ∨ s.link.framing = .idle) :
    s.stallExpired = s.framed .idle := by
  obtain h | h := h <;> simp only [State.stallExpired, h]

theorem State.stallExpired_of_partial (h : s.link.framing ≠ .hunt) (hi : s.link.framing ≠ .idle) :
    s.stallExpired = (s.raise .linkError).framed .idle := by
  unfold State.stallExpired
  split
  · next e => exact absurd e h
  · next e => exact absurd e hi
  · rfl
  · rfl

/-- A framing state kept. -/
theorem State.framed_same {f : Framing} (h : s.link.framing = f) (hf : f ≠ .idle) :
    s.framed f = { s with link := { s.link with stall := some 656 } } := by
  rw [State.framed, if_neg hf]
  exact congrArg (fun x => { s with link := { s.link with framing := x, stall := some 656 } }) h.symm

end

/-- Settles O11: each framing state's own equation. -/
theorem framingStatesFollowTheTable : Obligations.FramingStatesFollowTheTable := by
  intro s hrun
  have fault : exec .rxFramingFault s = .next s.receiveFault := congrArg Host.Outcome.next (State.whenRunning_of_running hrun _)
  have stall (h : s.link.stall ≠ none) : exec .stallExpiry s = .next s.stallExpired :=
    congrArg Host.Outcome.next ((State.whenRunning_of_running hrun _).trans (if_pos (Option.isSome_iff_ne_none.mpr h)))
  refine ⟨fun b h => ?_, fun b bs h hl => ?_, fun b k ch n bs h hl => ?_, fun b h => ?_, fun h => ?_, fun h => ?_, fun h => ?_,
    fun hs h => ?_, fun hs h hi => ?_⟩
  · rw [exec_rxByte hrun, State.receive_of_idle h]
    rfl
  · rw [exec_rxByte hrun, State.receive_of_header h hl]
    rfl
  · rw [exec_rxByte hrun, State.receive_of_payload h, State.payloadByte_held (by rw [List.length_append]; exact Nat.succ_lt_succ hl)]
    rfl
  · rw [exec_rxByte hrun, State.receive_of_hunt h, State.framed_same h nofun]
  · rw [fault, State.receiveFault_of_partial h]
    rfl
  · rw [fault, State.receiveFault_of_hunt h, State.framed_same h nofun]
  · exact congrArg Host.Outcome.next (State.whenRunning_of_same (if_neg (by rw [h]; decide)))
  · rw [stall hs, State.stallExpired_of_quiet h]
    rfl
  · rw [stall hs, State.stallExpired_of_partial h hi]
    rfl

/-- Settles O12: the outcomes of the fourth header byte and of the last checksum byte. -/
theorem lastByteMakesTheMessage : Obligations.LastByteMakesTheMessage := by
  intro s hrun
  refine ⟨fun b0 b1 b2 b h => ⟨fun hb => ?_, fun hb hk => ?_, fun hb hk hc => ?_, fun hb hk h1 h2 => ?_⟩,
    fun k ch p lo hi h => ?_, fun m h => State.offer_of_room h m, fun m h => State.offer_of_full h m⟩
  · rw [exec_rxByte hrun, State.receive_of_fullHeader h, State.headerDone_of_bad hb]
    rfl
  · have short : (identKind b0).toNat < 16 := by rw [identKind_toNat]; omega
    rw [exec_rxByte hrun, State.receive_of_fullHeader h, hb, State.headerDone_of_short short, identKind_eq, identChannel_eq]
    rfl
  · have long : ¬(identKind b0).toNat < 16 := by rw [identKind_toNat]; omega
    rw [exec_rxByte hrun, State.receive_of_fullHeader h, hb, State.headerDone_of_marked long hc, identKind_eq,
      identChannel_eq, mask16_eq]
    rfl
  · have long : ¬(identKind b0).toNat < 16 := by rw [identKind_toNat]; omega
    have count : ¬(word16 b1 b2 = 0 ∨ 1024 < word16 b1 b2) := by rw [word16]; omega
    rw [exec_rxByte hrun, State.receive_of_fullHeader h, hb, State.headerDone_of_long long count, identKind_eq,
      identChannel_eq]
    rfl
  · rw [exec_rxByte hrun, State.receive_of_payload h, State.payloadByte_last, mask16_eq]
    rfl

/-! ### The bytes of a message -/

theorem runAll_append : ∀ {cs ds : List Instr} {s t : State}, runAll cs s = .next t → runAll (cs ++ ds) s = runAll ds t
  | [], _, _, _, h => by cases h; rfl
  | c :: cs, ds, s, t, h => by
    rw [List.cons_append, runAll]
    rw [runAll] at h
    cases hc : exec c s with
    | next u =>
      rw [hc] at h
      exact runAll_append h
    | fault f => rw [hc] at h; exact nomatch h
    | refused r => rw [hc] at h; exact nomatch h

theorem runAll_one {c : Instr} {s t : State} (h : exec c s = .next t) : runAll [c] s = .next t := by
  rw [runAll, h]
  rfl

/-- A byte received, and then the others. -/
theorem runAll_rxByte {s : State} (h : s.pins.resetLow = false) (b : Byte) (bs : List Byte) :
    runAll ((b :: bs).map Instr.rxByte) s = runAll (bs.map Instr.rxByte) (s.receive b) :=
  runAll_append (cs := [.rxByte b]) (runAll_one (exec_rxByte h b))

section
variable {s : State} (hrun : s.pins.resetLow = false)

include hrun

/-- A header received from IDLE. -/
theorem runAll_header (hidle : s.link.framing = .idle) (b0 b1 b2 : Byte) :
    runAll ((header b0 b1 b2).map Instr.rxByte) s = .next (s.headerDone b0 b1 b2 (crc8 [b0, b1, b2])) := by
  have first : s.receive b0 = s.framed (.header [b0]) := State.receive_of_idle hidle b0
  have second : (s.framed (.header [b0])).receive b1 = s.framed (.header [b0, b1]) :=
    State.receive_of_header (s := s.framed _) (bs := [b0]) rfl (by simp) b1
  have third : (s.framed (.header [b0, b1])).receive b2 = s.framed (.header [b0, b1, b2]) :=
    State.receive_of_header (s := s.framed _) (bs := [b0, b1]) rfl (by simp) b2
  have last (b : Byte) : (s.framed (.header [b0, b1, b2])).receive b = s.headerDone b0 b1 b2 b := by
    rw [State.receive_of_fullHeader (s := s.framed _) rfl]
    simp only [State.headerDone]
    split
    · rfl
    · split
      · rfl
      · split <;> rfl
  rw [header, runAll_rxByte hrun, first, runAll_rxByte (s := s.framed _) hrun, second, runAll_rxByte (s := s.framed _) hrun,
    third, runAll_rxByte (s := s.framed _) hrun, last]
  rfl

/-- The bytes of a payload held one after another. -/
theorem runAll_payload (k : BitVec 5) (ch : Channel) (n : Nat) : ∀ (p held : List Byte),
    held.length + p.length < n + 2 →
    runAll (p.map Instr.rxByte) (s.framed (.payload k ch n held)) = .next (s.framed (.payload k ch n (held ++ p)))
  | [], held, _ => by rw [List.append_nil]; rfl
  | b :: p, held, hl => by
    have room : (held ++ [b]).length < n + 2 := by
      rw [List.length_append, List.length_singleton]
      rw [List.length_cons] at hl
      omega
    have rest := runAll_payload k ch n p (held ++ [b]) (by
      rw [List.length_append, List.length_singleton]
      rw [List.length_cons] at hl
      omega)
    rw [runAll_rxByte (s := s.framed _) hrun, State.receive_of_payload (s := s.framed _) rfl,
      State.payloadByte_held (s := s.framed _) room]
    rw [List.append_assoc] at rest
    exact rest

/-- A whole long message received from IDLE. -/
theorem runAll_longWire (hidle : s.link.framing = .idle) {k : BitVec 5} {ch : Channel} {p : List Byte} (c : BitVec 16)
    (hk : 16 ≤ k.toNat) (h1 : 1 ≤ p.length) (h2 : p.length ≤ 1024) :
    runAll ((longWire (ident k ch) p c).map Instr.rxByte) s
      = .next ((s.framed .idle).offer ⟨k, ch, .long (.full p c)⟩) := by
  have count := word16_bytes p.length (by omega)
  have long : ¬(identKind (ident k ch)).toNat < 16 := by rw [ident_kind]; exact Nat.not_lt.mpr hk
  have wire : longWire (ident k ch) p c = header (ident k ch) (lowByte (BitVec.ofNat 16 p.length))
      (highByte (BitVec.ofNat 16 p.length)) ++ ((p ++ [lowByte c]) ++ [highByte c]) := by
    simp only [longWire, List.append_assoc, List.cons_append, List.nil_append]
  have entered := runAll_header hrun hidle (ident k ch) (lowByte (BitVec.ofNat 16 p.length)) (highByte (BitVec.ofNat 16 p.length))
  rw [State.headerDone_of_long long (by rw [count]; omega), ident_kind, ident_channel, count] at entered
  have held := runAll_payload hrun k ch p.length (p ++ [lowByte c]) [] (by simp)
  rw [List.nil_append] at held
  rw [wire, List.map_append, runAll_append entered, List.map_append, runAll_append held]
  refine runAll_one ((exec_rxByte (s := s.framed _) hrun _).trans ?_)
  rw [State.receive_of_payload (s := s.framed _) rfl, State.payloadByte_last, mask16_bytes]
  rfl

end

/-- Settles O5: the header's bytes, and of a long message the payload's and the checksum's. -/
theorem receivedBytesBecomeTheMessage : Obligations.ReceivedBytesBecomeTheMessage := by
  intro s m hm hrun hidle hroom
  obtain ⟨kind, ch, content⟩ := m
  cases content with
  | short p0 p1 =>
    have short : (identKind (ident kind ch)).toNat < 16 := by
      rw [ident_kind]
      exact of_decide_eq_true hm
    refine (runAll_header hrun hidle (ident kind ch) p0 p1).trans ?_
    rw [State.headerDone_of_short short, ident_kind, ident_channel, State.offer_of_room (s := s.framed .idle) hroom]
    rfl
  | long body =>
    obtain ⟨hk, hb⟩ := Bool.and_eq_true_iff.mp hm
    have long : ¬(identKind (ident kind ch)).toNat < 16 := by
      rw [ident_kind]
      exact Nat.not_lt.mpr (of_decide_eq_true hk)
    cases body with
    | marked n =>
      have count : word16 (lowByte n) (highByte n) = 0 ∨ 1024 < word16 (lowByte n) (highByte n) := by
        rw [← mask16_toNat, mask16_bytes]
        obtain h0 | h1 := Bool.or_eq_true_iff.mp hb
        · exact .inl (beq_iff_eq.mp h0)
        · exact .inr (of_decide_eq_true h1)
      refine (runAll_header hrun hidle (ident kind ch) (lowByte n) (highByte n)).trans ?_
      rw [State.headerDone_of_marked long count, ident_kind, ident_channel, mask16_bytes,
        State.offer_of_room (s := s.framed .hunt) hroom]
      rfl
    | full p c =>
      obtain ⟨h1, h2⟩ := Bool.and_eq_true_iff.mp hb
      have h1 : 1 ≤ p.length := of_decide_eq_true h1
      have h2 : p.length ≤ 1024 := of_decide_eq_true h2
      have good : Message.badCount ⟨kind, ch, .long (.full p c)⟩ = false :=
        Bool.or_eq_false_iff.mpr ⟨beq_false_of_ne (Nat.one_le_iff_ne_zero.mp h1), decide_eq_false (Nat.not_lt.mpr h2)⟩
      refine (runAll_longWire hrun hidle c (of_decide_eq_true hk) h1 h2).trans ?_
      rw [good, State.offer_of_room (s := s.framed .idle) hroom]
      rfl

/-! ### What every step keeps of the Link Controller -/

/-- The Link Controller's soundness rests on its framing, its stall timer and its queue. -/
theorem Link.Sound.congr {l k : Link} (h : l.Sound) (framing : k.framing = l.framing) (stall : k.stall = l.stall)
    (queue : k.queue = l.queue) : k.Sound := by
  obtain ⟨length, wf, held, timer⟩ := h
  refine ⟨?_, ?_, ?_, ?_⟩
  · rw [queue]; exact length
  · rw [queue]; exact wf
  · rw [framing]; exact held
  · rw [framing, stall]; exact timer

/-- A message offered. -/
theorem Link.Sound.offer {s : State} (h : s.link.Sound) {m : Message} (hm : m.wf = true) : (s.offer m).link.Sound := by
  by_cases hroom : s.link.queue.length < 2
  · rw [State.offer_of_room hroom]
    obtain ⟨length, wf, held, timer⟩ := h
    refine ⟨?_, fun x hx => ?_, held, timer⟩
    · rw [List.length_append, List.length_singleton]
      exact hroom
    · obtain hx | hx := List.mem_append.mp hx
      · exact wf x hx
      · rw [List.mem_singleton.mp hx]
        exact hm
  · rw [State.offer_of_full (Nat.not_lt.mp hroom)]
    exact h

/-- A framing state entered. -/
theorem Link.Sound.framed {s : State} (h : s.link.Sound) {f : Framing} (hf : f.Sound) : (s.framed f).link.Sound := by
  obtain ⟨length, wf, -, -⟩ := h
  refine ⟨length, wf, hf, ?_⟩
  by_cases hi : f = .idle <;> simp [hi]

theorem Link.Sound.framed_idle {s : State} (h : s.link.Sound) : (s.framed .idle).link.Sound := h.framed trivial

theorem Link.Sound.framed_hunt {s : State} (h : s.link.Sound) : (s.framed .hunt).link.Sound := h.framed trivial

theorem Link.Sound.raised {s : State} (h : s.link.Sound) (n : Notice) : (s.raise n).link.Sound := h

theorem Link.Sound.headerDone {s : State} (h : s.link.Sound) (b0 b1 b2 b : Byte) : (s.headerDone b0 b1 b2 b).link.Sound := by
  by_cases hb : b = crc8 [b0, b1, b2]
  · subst hb
    by_cases hk : (identKind b0).toNat < 16
    · rw [State.headerDone_of_short hk]
      exact h.framed_idle.offer (decide_eq_true hk)
    · have long : 16 ≤ (identKind b0).toNat := Nat.not_lt.mp hk
      by_cases hc : word16 b1 b2 = 0 ∨ 1024 < word16 b1 b2
      · rw [State.headerDone_of_marked hk hc]
        refine h.framed_hunt.offer (Bool.and_eq_true_iff.mpr ⟨decide_eq_true long, ?_⟩)
        rw [LongBody.wf, mask16_toNat, Bool.or_eq_true, beq_iff_eq, decide_eq_true_iff]
        exact hc
      · rw [State.headerDone_of_long hk hc]
        refine h.framed ⟨long, ?_, ?_, Nat.succ_pos _⟩ <;> omega
  · rw [State.headerDone_of_bad hb]
    exact (h.raised _).framed_hunt

/-- A payload or checksum byte, as its framing state may hold it. -/
theorem Link.Sound.payloadByte {s : State} (h : s.link.Sound) {k : BitVec 5} {ch : Channel} {n : Nat} {bs : List Byte}
    (hk : 16 ≤ k.toNat) (h1 : 1 ≤ n) (h2 : n ≤ 1024) (hl : bs.length < n + 3) : (s.payloadByte k ch n bs).link.Sound := by
  by_cases hb : bs.length < n + 2
  · rw [State.payloadByte_held hb]
    exact h.framed ⟨hk, h1, h2, hb⟩
  · rw [State.payloadByte, if_neg hb]
    have length : (bs.take n).length = n := by
      rw [List.length_take]
      omega
    refine h.framed_idle.offer (Bool.and_eq_true_iff.mpr ⟨decide_eq_true hk, ?_⟩)
    rw [LongBody.wf, length]
    exact Bool.and_eq_true_iff.mpr ⟨decide_eq_true h1, decide_eq_true h2⟩

theorem Link.Sound.receive {s : State} (h : s.link.Sound) (b : Byte) : (s.receive b).link.Sound := by
  obtain ⟨-, -, held, -⟩ := id h
  cases hf : s.link.framing with
  | idle =>
    rw [State.receive_of_idle hf]
    exact h.framed ⟨Nat.le_refl 1, by simp⟩
  | hunt =>
    rw [State.receive_of_hunt hf]
    exact h.framed_hunt
  | payload k ch n bs =>
    rw [hf] at held
    obtain ⟨hk, h1, h2, hl⟩ := held
    rw [State.receive_of_payload hf]
    refine h.payloadByte hk h1 h2 ?_
    rw [List.length_append, List.length_singleton]
    omega
  | header bs =>
    rw [hf] at held
    obtain ⟨h1, h3⟩ := held
    by_cases hl : bs.length < 3
    · rw [State.receive_of_header hf hl]
      refine h.framed ⟨?_, ?_⟩ <;> (rw [List.length_append, List.length_singleton]; omega)
    · obtain ⟨b0, b1, b2, rfl⟩ := List.length_eq_three.mp (show bs.length = 3 by omega)
      rw [State.receive_of_fullHeader hf]
      exact h.headerDone b0 b1 b2 b

theorem Link.Sound.receiveFault {s : State} (h : s.link.Sound) : s.receiveFault.link.Sound := by
  by_cases hf : s.link.framing = .hunt
  · rw [State.receiveFault_of_hunt hf]
    exact h.framed_hunt
  · rw [State.receiveFault_of_partial hf]
    exact (h.raised _).framed_hunt

theorem Link.Sound.expireStall {s : State} (h : s.link.Sound) : s.expireStall.link.Sound := by
  unfold State.expireStall
  split
  · by_cases hq : s.link.framing = .hunt ∨ s.link.framing = .idle
    · rw [State.stallExpired_of_quiet hq]
      exact h.framed_idle
    · rw [not_or] at hq
      rw [State.stallExpired_of_partial hq.1 hq.2]
      exact (h.raised _).framed_idle
  · exact h

theorem Link.Sound.resetTakesEffect {l : Link} (h : l.Sound) : l.resetTakesEffect.Sound := by
  obtain ⟨-, -, -, timer⟩ := h
  unfold Link.resetTakesEffect
  dsimp only
  split
  · next bs hf => exact ⟨Nat.zero_le _, nofun, trivial, iff_of_false (fun e => nomatch hf.symm.trans (timer.mp e)) nofun⟩
  · next k ch n bs hf => exact ⟨Nat.zero_le _, nofun, trivial, iff_of_false (fun e => nomatch hf.symm.trans (timer.mp e)) nofun⟩
  · exact ⟨Nat.zero_le _, nofun, trivial, iff_of_true rfl rfl⟩
  · exact ⟨Nat.zero_le _, nofun, trivial, iff_of_true rfl rfl⟩

theorem Link.powerOn_sound (l : Link) (rate : BitRate) : Link.Sound { l.powerOn with rate := rate } :=
  ⟨Nat.zero_le _, nofun, trivial, iff_of_false nofun nofun⟩

/-! ### What acts leave of the link and of the waiting commands -/

theorem Act.pending {r : Reach} {s t : State} (a : Act r s t) : t.pending = s.pending := by
  cases a with
  | operation o => exact o.moves.touches.pending
  | enterHoliday st hr hst => exact ((s.inHoliday st).touches_retireAll .mode _).pending
  | _ => rfl

theorem Act.link_of_apart {r : Reach} (hr : r.link = false) {s t : State} (a : Act r s t) : t.link = s.link := by
  cases a with
  | operation o => exact o.moves.touches.link
  | enterHoliday st _ hst => exact ((s.inHoliday st).touches_retireAll .mode _).link
  | link l hl => exact nomatch hr.symm.trans hl
  | _ => rfl

theorem Acts.link_of_apart {r : Reach} (hr : r.link = false) {s t : State} (h : Acts r s t) : t.link = s.link := by
  induction h with
  | refl => rfl
  | tail _ a ih => exact (a.link_of_apart hr).trans ih

theorem Acts.pending {r : Reach} {s t : State} (h : Acts r s t) : t.pending = s.pending := by
  induction h with
  | refl => rfl
  | tail _ a ih => exact a.pending.trans ih

/-- No command changes the commands that wait. -/
theorem exec_pending {c : Instr} {s t : State} (he : exec c s = .next t) : t.pending = s.pending := by
  cases hc : c.isApart with
  | false => exact (exec_acts hc he).pending
  | true =>
    have request (owner : State → Reply) (own : ∀ t, (owner t).state.pending = t.pending) (m : Message) :
        (s.request m owner).pending = s.pending :=
      State.request_rel (R := fun s t => t.pending = s.pending) (fun _ => rfl) (fun h k => k.trans h) (fun _ _ _ => rfl)
        (fun _ => rfl) own s m
    cases c with
    | powerOn | resetPinLow | rateStrapChange => cases he; rfl
    | resetPinRelease => cases he; split <;> rfl
    | resetFullTakesEffect =>
      cases he
      unfold State.whenRunning
      split
      · rfl
      · dsimp only
        split <;> rfl
    | notices ch p0 p1 => cases he; exact request _ (fun _ => rfl) _
    | noticeEnable ch p0 p1 => cases he; exact request _ (fun _ => rfl) _
    | _ => cases hc

/-- The owner of a request leaves the framing, the stall timer and the queue. -/
theorem owner_link (c : Instr) (s : State) : (c.owner s).state.link.framing = s.link.framing
    ∧ (c.owner s).state.link.stall = s.link.stall ∧ (c.owner s).state.link.queue = s.link.queue := by
  have of_same (h : (c.owner s).state.link = s.link) : (c.owner s).state.link.framing = s.link.framing
      ∧ (c.owner s).state.link.stall = s.link.stall ∧ (c.owner s).state.link.queue = s.link.queue := by
    rw [h]
    exact ⟨rfl, rfl, rfl⟩
  by_cases hr : c.relinks = true
  · cases c with
    | reset ch p0 p1 =>
      simp only [Instr.owner, State.resetRequest]
      split
      · exact ⟨rfl, rfl, rfl⟩
      · split <;> exact ⟨rfl, rfl, rfl⟩
    | _ => exact nomatch hr
  · by_cases hc : c.isApart = true
    · cases c with
      | notices | noticeEnable => exact of_same rfl
      | powerOn | resetPinLow | resetPinRelease | resetFullTakesEffect | rateStrapChange => exact of_same rfl
      | _ => exact nomatch hc
    · exact of_same ((owner_acts (Bool.eq_false_iff.mpr hc) s).link_of_apart (Bool.eq_false_iff.mpr hr))

/-- A request of a message that reception can leave. -/
theorem Link.Sound.request {s : State} (h : s.link.Sound) {m : Message} (hm : m.wf = true) (c : Instr) :
    (s.request m c.owner).link.Sound := by
  rcases s.request_cases m c.owner with same | offered | ⟨t, taking, handled⟩
  · rwa [same]
  · rw [offered]
    exact h.offer hm
  · rw [handled]
    have taken : t.link.Sound := by
      obtain ⟨-, -, ⟨-, rfl⟩ | ⟨rest, hq, rfl⟩⟩ := taking
      · exact h
      · obtain ⟨length, wf, held, timer⟩ := h
        rw [hq] at length wf
        exact ⟨Nat.le_of_succ_le length, fun x hx => wf x (List.mem_cons_of_mem m hx), held, timer⟩
    rcases t.handle_cases m c.owner with ⟨a, sent⟩ | ⟨a, sent⟩ <;> rw [sent]
    · exact taken.congr rfl rfl rfl
    · obtain ⟨framing, stall, queue⟩ := owner_link c t
      exact taken.congr framing stall queue

/-- The commands without a message that are not the Link Controller's leave it as it was. -/
theorem exec_link_same {c : Instr} {s t : State} (hm : c.message = none) (he : exec c s = .next t)
    (hc : c.isApart = false) (h1 : ∀ b, c ≠ .rxByte b) (h2 : c ≠ .rxFramingFault) (h3 : c ≠ .stallExpiry)
    (h4 : c ≠ .resetGrantsTakesEffect) : t.link = s.link := by
  refine Acts.link_of_apart (r := { water := true, probes := true, link := false }) rfl ?_
  cases c with
  | lossIntervalExpiry => cases he; exact acts_whenRunning (acts_expireLossInterval rfl s)
  | hygieneMinuteExpiry => cases he; exact acts_whenRunning (acts_expireHygieneMinute rfl s)
  | livenessExpiry p => cases he; exact acts_whenRunning (Operation.retire s p .expired (by decide)).acts
  | minRunExpiry p => cases he; exact acts_whenRunning (Operation.expireMinRun s p).acts
  | solarIdleExpiry => cases he; exact acts_whenRunning (Operation.expireSolarIdle s).acts
  | hygieneTimeLimitExpiry => cases he; exact acts_whenRunning (Operation.expireHygieneLimit s).acts
  | scanIntervalExpiry => cases he; exact acts_whenRunning (acts_expireScanInterval s)
  | conversionTimeout => cases he; exact acts_whenRunning (acts_timeOutConversion rfl s)
  | probeReply passes address reading => cases he; exact acts_whenRunning (acts_takeReply rfl rfl s _ _ _)
  | probeCorrection => cases he; exact acts_whenRunning (acts_takeCorrection rfl s)
  | lockoutHoldExpiry n => cases he; exact acts_whenRunning (acts_expireHold rfl s n)
  | rxByte b => exact absurd rfl (h1 b)
  | rxFramingFault => exact absurd rfl h2
  | stallExpiry => exact absurd rfl h3
  | resetGrantsTakesEffect => exact absurd rfl h4
  | powerOn | resetPinLow | resetPinRelease | resetFullTakesEffect | rateStrapChange => cases hc
  | _ => cases hm

theorem Link.Sound.whenRunning {s : State} {f : State → State} (h : s.link.Sound) (hf : (f s).link.Sound) :
    (s.whenRunning f).link.Sound := by
  unfold State.whenRunning
  split
  · exact h
  · exact hf

/-- Every command whose message reception can leave keeps the Link Controller sound. -/
theorem Link.Sound.exec {c : Instr} {s t : State} (h : s.link.Sound) (hm : ∀ m, c.message = some m → m.wf = true)
    (he : exec c s = .next t) : t.link.Sound := by
  cases hmess : c.message with
  | some m =>
    rw [exec_request hmess] at he
    cases he
    exact h.request (hm m hmess) c
  | none =>
    cases c with
    | rxByte b => cases he; exact h.whenRunning (h.receive b)
    | rxFramingFault => cases he; exact h.whenRunning h.receiveFault
    | stallExpiry => cases he; exact h.whenRunning h.expireStall
    | resetGrantsTakesEffect =>
      cases he
      refine h.whenRunning ?_
      split
      · have same : s.settleCorrections.resetGrants.link = s.link := by
          obtain ⟨-, settled, -⟩ := s.settleCorrections_fields
          rw [← settled]
          exact (Operation.resetGrants _).moves.touches.link
        rw [State.grantsResetTakesEffect]
        exact Link.Sound.resetTakesEffect (by rw [same]; exact h)
      · exact h
    | resetFullTakesEffect =>
      cases he
      refine h.whenRunning ?_
      split
      · exact h.resetTakesEffect
      · exact h
    | powerOn => cases he; exact Link.powerOn_sound s.link _
    | resetPinLow => cases he; exact Link.powerOn_sound s.link s.link.rate
    | resetPinRelease =>
      cases he
      split
      · exact Link.powerOn_sound s.link _
      · exact h
    | rateStrapChange r1 r0 => cases he; exact h
    | notices | noticeEnable => cases hmess
    | _ => exact (exec_link_same hmess he rfl nofun nofun nofun nofun) ▸ h

/-- A command the spec admits carries a message reception can leave. -/
theorem Instr.message_wf {c : Instr} {m : Message} (hc : c.wf = true) (hm : c.message = some m) : m.wf = true := by
  have selected {body : LongBody} {k : Nat} (h : body.selects k = true) : body.wf = true := (Bool.and_eq_true_iff.mp h).1
  cases c <;> cases hm
  case unassignedKind k ch body =>
    have kind : 16 ≤ (BitVec.ofNat 5 (22 + k.val)).toNat := by
      rw [BitVec.toNat_ofNat, Nat.mod_eq_of_lt (by omega)]
      omega
    exact Bool.and_eq_true_iff.mpr ⟨decide_eq_true kind, hc⟩
  case configureStore | configurePort | configureProbe | requestCharge | deposit => exact hc
  case readStrata | readPorts | readGrants | readProbes | readSummary => exact selected hc
  all_goals rfl

/-- The message of an event that is due stands in the receive queue. -/
theorem State.due_message {s : State} {i : Instr} (h : i ∈ s.due) {m : Message} (hm : i.message = some m) :
    m ∈ s.link.queue := by
  rw [State.mem_due] at h
  obtain ⟨-, rfl⟩ | ⟨-, rfl⟩ | ⟨-, k, rest, hq, hk⟩ | ⟨-, rfl⟩ | ⟨-, rfl⟩ | ⟨_, -, ⟨-, rfl⟩ | ⟨-, rfl⟩⟩
    | ⟨_, _, -, ⟨-, rfl⟩ | ⟨_, -, -, rfl⟩⟩ | ⟨-, rfl⟩ | ⟨-, rfl⟩ | ⟨-, rfl⟩ | ⟨_, -, -, rfl⟩ | ⟨_, -, rfl⟩ := h
  case inr.inr.inl =>
    rw [hq, ← Option.some.inj ((command_message hk).symm.trans hm)]
    exact List.mem_cons_self
  all_goals exact nomatch hm

/-- The idle step passes a period, or carries out one of the events due. -/
theorem State.idle_cases {s t : State} (h : s.idle = .next t) :
    t = s ∨ t = s.tick ∨ ∃ i ∈ s.due, exec i s = .next t ∨ exec i s.chosen = .next t := by
  unfold State.idle at h
  split at h
  · cases h; exact .inl rfl
  · split at h
    · cases h; exact .inr (.inl rfl)
    · next i hi => exact .inr (.inr ⟨i, by rw [hi]; exact List.mem_cons_self, .inl h⟩)
    · next i j rest hd =>
      refine .inr (.inr ⟨_, ?_, .inr h⟩)
      rw [hd, List.getD_eq_getElem?_getD, List.getElem?_eq_getElem (Nat.mod_lt _ (by simp)), Option.getD_some]
      exact List.getElem_mem _

/-- Settles O59: the messages of waiting commands and of the queue are as reception leaves them, and so is all that comes. -/
theorem everyStepKeepsTheLink : Obligations.EveryStepKeepsTheLink := by
  intro s t ⟨link, waiting⟩ he
  unfold step at he
  split at he
  · next hp =>
    obtain ⟨-, queued, -, -⟩ := id link
    have due {i : Instr} (hi : i ∈ s.due) {u : State} (hu : u.link = s.link) (hq : u.pending = s.pending)
        (h : exec i u = .next t) : t.LinkSound := by
      refine ⟨Link.Sound.exec (s := u) (by rw [hu]; exact link) (fun m hm => queued m (State.due_message hi hm)) h, ?_⟩
      rw [exec_pending h, hq]
      exact waiting
    obtain rfl | rfl | ⟨i, hi, h | h⟩ := State.idle_cases he
    · exact ⟨link, waiting⟩
    · obtain ⟨length, wf, held, timer⟩ := link
      refine ⟨⟨length, wf, held, ?_⟩, waiting⟩
      exact Timer.pass_eq_none.trans timer
    · exact due hi rfl rfl h
    · exact due (u := s.chosen) hi rfl rfl h
  · next c rest hp =>
    rw [hp] at waiting
    have admitted := waiting c List.mem_cons_self
    refine ⟨Link.Sound.exec (s := { s with pending := rest }) link (fun m hm => Instr.message_wf admitted hm) he, ?_⟩
    rw [exec_pending he]
    exact fun d hd => waiting d (List.mem_cons_of_mem c hd)

end Sys2Proof.Machine
end

section
/-!
PROOF. What every step keeps of the probe records: their counts, state and hold timer in agreement (R147 to R157).
-/

namespace Sys2Proof.Machine

/-! ### The records after each change -/

namespace Probe.Sound

variable {p : Probe}

/-- Soundness rests neither on the readings held nor on the alarm. -/
theorem congr (h : p.Sound) {q : Probe} (config : q.config = p.config) (state : q.state = p.state) (agree : q.agree = p.agree)
    (cumulative : q.cumulative = p.cumulative) (limited : q.limited = p.limited) (silent : q.silent ≤ 3)
    (hold : q.holdTimer ≠ none → p.holdTimer ≠ none) : q.Sound := by
  obtain ⟨limited3, -, lockout, timer, quiet, configured, never⟩ := h
  refine ⟨by rw [limited]; exact limited3, silent, ?_, ?_, ?_, fun c hc => ?_, fun hc => ?_⟩
  · rw [limited, state]; exact lockout
  · rw [state]; exact fun ht => timer (hold ht)
  · rw [state, agree]; exact quiet
  · rw [state, agree, cumulative]; exact configured c (config ▸ hc)
  · rw [state, cumulative]; exact never (config ▸ hc)

theorem silent_le (h : p.Sound) : p.silent ≤ 3 := h.2.1

/-- The figures of a configured probe (R147, R153). -/
theorem configured (h : p.Sound) {c : ProbeConfig} (hc : p.config = some c) :
    1 ≤ c.lockCount ∧ -(c.bound : Int) ≤ p.cumulative ∧ p.cumulative ≤ c.bound
      ∧ (p.state = .seeking → p.agree < c.lockCount) ∧ (p.state = .locked → p.agree = c.lockCount) := by
  obtain ⟨-, -, -, -, -, figures, -⟩ := h
  exact figures c hc

theorem off (h : p.Sound) (hc : p.config = none) : p.state = .off := by
  obtain ⟨-, -, -, -, -, -, never⟩ := h
  exact (never hc).1

/-- A configured probe outside LOCKOUT: fewer than three clips, and no hold running. -/
theorem outside (h : p.Sound) (hs : p.state ≠ .lockout) : p.limited ≤ 2 ∧ p.holdTimer = none := by
  obtain ⟨limited3, -, lockout, timer, -, -, -⟩ := h
  refine ⟨?_, not_not.mp (mt timer hs)⟩
  have : p.limited ≠ 3 := mt lockout.mp hs
  omega

/-- A configured probe in SEEKING, its agree count 0. -/
theorem seeking {q : Probe} {c : ProbeConfig} (hc : q.config = some c) (lock : 1 ≤ c.lockCount) (state : q.state = .seeking)
    (agree : q.agree = 0) (limited : q.limited ≤ 2) (silent : q.silent ≤ 3) (low : -(c.bound : Int) ≤ q.cumulative)
    (high : q.cumulative ≤ c.bound) (hold : q.holdTimer = none) : q.Sound := by
  refine ⟨by omega, silent, ?_, fun ht => absurd hold ht, fun _ _ => agree, fun c' hc' => ?_, fun hn => ?_⟩
  · rw [state]
    exact iff_of_false (by omega) nofun
  · cases hc.symm.trans hc'
    rw [state, agree]
    exact ⟨lock, low, high, fun _ => lock, nofun⟩
  · exact nomatch hc.symm.trans hn

/-- A probe taken from FAULT, its hold timer stopped. -/
theorem takeReading (h : p.Sound) {c : ProbeConfig} (hc : p.config = some c) (r : Nat) : (p.takeReading r).Sound := by
  obtain ⟨lock, low, high, -, -⟩ := h.configured hc
  by_cases hf : p.state = .fault
  · have outside := h.outside (by rw [hf]; decide)
    exact seeking (q := p.takeReading r) hc lock (if_pos hf) (if_pos hf) outside.1 (Nat.zero_le 3) low high outside.2
  · exact h.congr (q := p.takeReading r) rfl (if_neg hf) (if_neg hf) rfl rfl (Nat.zero_le 3) id

theorem relock (h : p.Sound) : p.relock.Sound := by
  unfold Probe.relock
  split
  · next hs =>
    rcases Option.eq_none_or_eq_some p.config with hc | ⟨c, hc⟩
    · exact nomatch hs.symm.trans (h.off hc)
    · exact seeking (c := c) hc (h.configured hc).1 rfl rfl (Nat.zero_le 2) h.silent_le (by simp) (Int.natCast_nonneg _) rfl
  · exact h

/-- A hold that expires is a lockout's (R156). -/
theorem expireHold (h : p.Sound) : Probe.Sound { p.relock with holdTimer := none } :=
  h.relock.congr rfl rfl rfl rfl rfl h.relock.silent_le fun ht => absurd rfl ht

theorem forgetCorrections (h : p.Sound) : p.forgetCorrections.Sound := by
  obtain ⟨limited3, silent, lockout, timer, quiet, configured, never⟩ := h
  refine ⟨limited3, silent, lockout, timer, quiet, fun c hc => ?_, fun hc => ⟨(never hc).1, rfl⟩⟩
  obtain ⟨lock, -, -, seeking, locked⟩ := configured c hc
  exact ⟨lock, by simp [Probe.forgetCorrections], Int.natCast_nonneg _, seeking, locked⟩

theorem pass (h : p.Sound) : p.pass.Sound :=
  h.congr rfl rfl rfl rfl rfl h.silent_le (mt Timer.pass_eq_none.mpr)

/-- An agreeing reading (R152). -/
theorem agreed (h : p.Sound) {c : ProbeConfig} (hc : p.config = some c) : (p.agreed c.lockCount).Sound := by
  unfold Probe.agreed
  split
  · next hs =>
    obtain ⟨limited3, silent, lockout, timer, quiet, configured, never⟩ := h
    obtain ⟨lock, low, high, seeking, -⟩ := configured c hc
    have outside : p.limited ≠ 3 := mt lockout.mp (by rw [hs]; decide)
    refine ⟨limited3, silent, iff_of_false outside ?_, fun ht => ?_, fun h1 h2 => ?_, fun c' hc' => ?_, fun hn => ?_⟩
    · dsimp only
      split <;> decide
    · exact nomatch hs.symm.trans (timer ht)
    · dsimp only at h1 h2
      split at h1
      · next e => exact absurd (if_pos e) h2
      · exact absurd rfl h1
    · cases hc.symm.trans hc'
      have below := seeking hs
      dsimp only
      split
      · next e => exact ⟨lock, low, high, nofun, fun _ => e⟩
      · next e => exact ⟨lock, low, high, fun _ => by omega, nofun⟩
    · exact nomatch hc.symm.trans hn
  · exact h

end Probe.Sound

/-- A clipped correction keeps the cumulative sum within its bound (R153). -/
theorem clipCorrection_bounds (cumulative c : Int) (bound : Nat) :
    -(bound : Int) ≤ cumulative + (clipCorrection cumulative c bound).1
      ∧ cumulative + (clipCorrection cumulative c bound).1 ≤ bound := by
  unfold clipCorrection
  split
  · dsimp only; omega
  · split <;> (dsimp only; omega)

namespace Probe.Sound

variable {p : Probe}

/-- A correction counted that is not the third clip in a row. -/
theorem corrected (h : p.Sound) {c : ProbeConfig} (hc : p.config = some c) (hs : p.state ≠ .lockout) {d : Int}
    (hl : (p.corrected c d).limited ≠ 3) : (p.corrected c d).Sound := by
  obtain ⟨two, hold⟩ := h.outside hs
  obtain ⟨low, high⟩ := clipCorrection_bounds p.cumulative (roundDivInt (-d) (2 ^ c.shift)) c.bound
  refine seeking (q := p.corrected c d) hc (h.configured hc).1 rfl rfl ?_ h.silent_le low high hold
  have clips : (p.corrected c d).limited = p.limited + 1 ∨ (p.corrected c d).limited = 0 := by
    dsimp only [Probe.corrected]
    split
    · exact .inl rfl
    · exact .inr rfl
  omega

/-- The third clip in a row, and LOCKOUT with it (R155). -/
theorem lockedOut (h : p.Sound) {c : ProbeConfig} (hc : p.config = some c) {d : Int}
    (hl : (p.corrected c d).limited = 3) (timer : Timer) :
    Probe.Sound { p.corrected c d with state := .lockout, holdTimer := timer } := by
  obtain ⟨low, high⟩ := clipCorrection_bounds p.cumulative (roundDivInt (-d) (2 ^ c.shift)) c.bound
  refine ⟨hl.le, h.silent_le, iff_of_true hl rfl, fun _ => rfl, fun _ _ => rfl, fun c' hc' => ?_, fun hn => ?_⟩
  · cases hc.symm.trans hc'
    exact ⟨(h.configured hc).1, low, high, nofun, nofun⟩
  · exact nomatch hc.symm.trans hn

end Probe.Sound

/-- A third silence in a row faults a probe in use (R148). -/
def Probe.faults (p : Probe) : Bool :=
  decide (min (p.silent + 1) 3 = 3) && (decide (p.state = .seeking) || decide (p.state = .locked))

/-- The record of a probe with a silence counted (R148). -/
def Probe.silenced (p : Probe) : Probe :=
  { p with
    silent := min (p.silent + 1) 3
    state := if p.faults then .fault else p.state
    agree := if p.faults then 0 else p.agree }

theorem State.takeTimeout_eq (s : State) (n : ProbeId) : s.takeTimeout n = (s.changeProbe n Probe.silenced).raiseIf
    ((s.probes.get n).faults || decide ((s.probes.get n).silent = 2)) .probeFault := rfl

theorem Probe.Sound.silenced {p : Probe} (h : p.Sound) : p.silenced.Sound := by
  cases hf : p.faults with
  | true =>
    have active : p.state = .seeking ∨ p.state = .locked := by
      simpa using (Bool.and_eq_true_iff.mp hf).2
    have state : p.silenced.state = .fault := if_pos hf
    have agree : p.silenced.agree = 0 := if_pos hf
    obtain ⟨limited3, -, lockout, timer, quiet, configured, never⟩ := h
    have notOut : p.state ≠ .lockout := by obtain e | e := active <;> (rw [e]; decide)
    refine ⟨limited3, Nat.min_le_right _ _, ?_, fun ht => absurd (timer ht) notOut, fun _ _ => agree, fun c hc => ?_,
      fun hc => ?_⟩
    · rw [state]
      exact iff_of_false (mt lockout.mp notOut) nofun
    · obtain ⟨lock, low, high, -, -⟩ := configured c hc
      rw [state]
      exact ⟨lock, low, high, nofun, nofun⟩
    · have off := (never hc).1
      obtain e | e := active <;> exact nomatch e.symm.trans off
  | false =>
    have same : ¬p.faults = true := by rw [hf]; decide
    exact h.congr (q := p.silenced) rfl (if_neg same) (if_neg same) rfl rfl (Nat.min_le_right _ _) id

/-- A record just configured (R157). -/
theorem ProbeFields.configured_sound (f : ProbeFields) : Probe.Sound { Probe.initial with
    config := some f.config, state := if f.config.enabled then .seeking else .off } := by
  have lock : 1 ≤ f.config.lockCount := by
    change 1 ≤ tuneZero 4 1 15 f.lockCount
    unfold tuneZero
    split
    · decide
    · exact Nat.le_max_left _ _
  cases f.config.enabled with
  | true =>
    exact Probe.Sound.seeking (c := f.config) rfl lock rfl rfl (Nat.zero_le 2) (Nat.zero_le 3) (by simp [Probe.initial])
      (Int.natCast_nonneg _) rfl
  | false =>
    refine ⟨Nat.zero_le 3, Nat.zero_le 3, iff_of_false nofun nofun, fun ht => absurd rfl ht, fun _ _ => rfl, fun c hc => ?_,
      nofun⟩
    cases hc
    exact ⟨lock, by simp [Probe.initial], Int.natCast_nonneg _, nofun, nofun⟩

/-! ### The records of the machine -/

theorem State.ProbesSound.of_same {s t : State} (h : s.ProbesSound) (e : t.probes = s.probes) : t.ProbesSound := by
  intro n
  rw [e]
  exact h n

theorem State.ProbesSound.changeProbe {s : State} (h : s.ProbesSound) {n : ProbeId} {f : Probe → Probe}
    (hf : (f (s.probes.get n)).Sound) : (s.changeProbe n f).ProbesSound := by
  intro k
  rw [State.changeProbe, PerProbe.get_set]
  split
  · exact hf
  · exact h k

theorem State.TouchesGrants.probes {s t : State} (h : s.TouchesGrants t) : t.probes = s.probes := by
  obtain ⟨-, -, -, probes, -, -, -⟩ := h.fields
  exact probes

theorem Act.probes_of_apart {r : Reach} (hr : r.probes = false) {s t : State} (a : Act r s t) : t.probes = s.probes := by
  cases a with
  | operation o => exact o.moves.touches.probes
  | enterHoliday st _ hst => exact ((s.inHoliday st).touches_retireAll .mode _).probes
  | probes ps hp => exact nomatch hr.symm.trans hp
  | start cfg holiday sc _ hp => exact nomatch hr.symm.trans hp
  | _ => rfl

theorem Acts.probes_of_apart {r : Reach} (hr : r.probes = false) {s t : State} (h : Acts r s t) : t.probes = s.probes := by
  induction h with
  | refl => rfl
  | tail _ a ih => exact (a.probes_of_apart hr).trans ih

theorem State.settleCorrections_probes (s : State) : s.settleCorrections.probes = s.probes :=
  Acts.probes_of_apart (r := { water := true, probes := false, link := false }) rfl (acts_settleCorrections rfl s)

theorem State.sendCorrection_probes (s : State) (height : Nat) (c : Int) : (s.sendCorrection height c).probes = s.probes := by
  unfold State.sendCorrection
  split <;> rfl

theorem State.moveOn_probes (s : State) (n : ProbeId) : (s.moveOn n).probes = s.probes := by
  unfold State.moveOn
  split
  · rfl
  · split
    · unfold State.startCycle
      split <;> rfl
    · rfl

theorem State.ProbesSound.setAlarm {s : State} (h : s.ProbesSound) (n : ProbeId) (alarm : Bool) :
    (s.setAlarm n alarm).ProbesSound := by
  obtain ⟨-, -, -, -, probes⟩ := s.setAlarm_fields n alarm
  have changed : (s.changeProbe n fun p => { p with alarm := alarm }).ProbesSound :=
    h.changeProbe ((h n).congr rfl rfl rfl rfl rfl (h n).silent_le id)
  exact changed.of_same probes

/-- A correction of a probe outside LOCKOUT, with the lockout it may lead to (R153, R155). -/
theorem State.ProbesSound.correct {s : State} (h : s.ProbesSound) {n : ProbeId} {c : ProbeConfig}
    (hc : (s.probes.get n).config = some c) (hs : (s.probes.get n).state ≠ .lockout) (d : Int) :
    (s.correct n c d).ProbesSound := by
  have sent : (s.sendsCorrection n c d).probes = s.probes.set n ((s.probes.get n).corrected c d) :=
    State.sendCorrection_probes _ _ _
  rw [State.correct_eq]
  split
  · next hl =>
    -- the record is unsound between the third clip and the lockout, which nothing in between reads
    have locked (u : State) (hu : u.probes = s.probes.set n ((s.probes.get n).corrected c d)) :
        (u.enterLockout n c.hold).ProbesSound := by
      intro k
      have probes : (u.enterLockout n c.hold).probes = u.probes.set n
          { u.probes.get n with state := .lockout, holdTimer := if c.hold = 0 then none else minutes c.hold } := rfl
      rw [probes, hu, PerProbe.get_set]
      split
      · rw [PerProbe.get_set_same]
        exact (h n).lockedOut hc hl _
      · next hk =>
        rw [PerProbe.get_set_other _ _ hk]
        exact h k
    split
    · exact locked _ sent
    · exact locked _ ((State.settleCorrections_probes _).trans sent)
  · next hl =>
    have counted : (s.changeProbe n (Probe.corrected c d)).ProbesSound := h.changeProbe ((h n).corrected hc hs hl)
    exact counted.of_same sent

theorem State.ProbesSound.compareReading {s : State} (h : s.ProbesSound) {n : ProbeId} {c : ProbeConfig}
    (hc : (s.probes.get n).config = some c) (hs : (s.probes.get n).state ≠ .lockout) (st : Store) (r : Nat) :
    (s.compareReading n c st r).ProbesSound := by
  unfold State.compareReading
  dsimp only
  split
  · exact h.changeProbe ((h n).agreed hc)
  · exact h.correct hc hs _
  · exact h.correct hc hs _

theorem State.ProbesSound.takeReading {s : State} (h : s.ProbesSound) (n : ProbeId) (r : Nat) :
    (s.takeReading n r).ProbesSound := by
  unfold State.takeReading
  split
  · next st c hst hc =>
    dsimp only
    let a := s.changeProbe n fun p => p.takeReading r
    have read : a.ProbesSound := h.changeProbe ((h n).takeReading hc r)
    have aConfig : (a.probes.get n).config = some c :=
      (congrArg Probe.config (PerProbe.get_set_same s.probes n _)).trans hc
    have alarmed := read.setAlarm n (alarmAfter c.alarmMode c.threshold r (a.probes.get n).alarm)
    obtain ⟨-, -, -, -, probes⟩ := a.setAlarm_fields n (alarmAfter c.alarmMode c.threshold r (a.probes.get n).alarm)
    split
    · exact alarmed
    · next hs =>
      refine alarmed.compareReading ?_ hs st r
      rw [probes, PerProbe.get_set_same]
      exact aConfig
  · exact h

theorem State.ProbesSound.takeTimeout {s : State} (h : s.ProbesSound) (n : ProbeId) : (s.takeTimeout n).ProbesSound := by
  have counted : (s.changeProbe n Probe.silenced).ProbesSound := h.changeProbe (h n).silenced
  rw [State.takeTimeout_eq]
  exact counted.of_same (State.raiseIf_probes _ _ _)

theorem State.ProbesSound.initial {s : State} (h : s.probes = .replicate .initial) : s.ProbesSound := fun n => by
  rw [h, PerProbe.get_replicate]
  exact Probe.initial_sound

theorem State.ProbesSound.probeClear {s : State} (h : s.ProbesSound) (p0 p1 : Byte) :
    (State.probeClearRequest p0 p1 s).state.ProbesSound := by
  rcases Option.eq_none_or_eq_some s.store with hst | ⟨st, hst⟩
  · simp only [State.probeClearRequest, State.onStore_none hst]
    exact h
  · by_cases hr : ProbeId.ofNumber p0.toNat = none ∨ 7 < p1.toNat
    · rw [State.probeClearRequest_range hst hr]
      exact h
    · obtain ⟨hn, h7⟩ := not_or.mp hr
      obtain ⟨n, hn⟩ := Option.ne_none_iff_exists'.mp hn
      rw [State.probeClearRequest_eq hst hn (Nat.not_lt.mp h7)]
      change (s.clearActions n p1).ProbesSound
      have relocked : (if p1.getLsbD 0 then s.changeProbe n Probe.relock else s).ProbesSound := by
        split
        · exact h.changeProbe (h n).relock
        · exact h
      unfold State.clearActions
      generalize (if p1.getLsbD 0 then s.changeProbe n Probe.relock else s) = a at relocked
      have forgot : (if p1.getLsbD 1 then a.changeProbe n fun p => { p with minimum := none, maximum := none }
          else a).ProbesSound := by
        split
        · exact relocked.changeProbe ((relocked n).congr rfl rfl rfl rfl rfl (relocked n).silent_le id)
        · exact relocked
      dsimp only
      split
      · exact forgot.setAlarm n false
      · exact forgot

theorem State.ProbesSound.reseed {s : State} (h : s.ProbesSound) : s.reseedRequest.state.ProbesSound := by
  rcases Option.eq_none_or_eq_some s.store with hst | ⟨st, hst⟩
  · simp only [State.reseedRequest, State.onStore_none hst]
    exact h
  · by_cases hr : s.usableReadings = []
    · rw [State.reseedRequest_none hst hr]
      exact h
    · rw [State.reseedRequest_eq hst hr]
      have forgot : State.ProbesSound { s with
          store := some { st with strata := reseedList st.cfg s.usableReadings st.strata }
          probes := s.probes.map Probe.forgetCorrections } := fun n => by
        rw [PerProbe.get_map]
        exact (h n).forgetCorrections
      exact forgot.of_same (State.touches_modelChanged _).probes

theorem State.ProbesSound.configureStore {s : State} (h : s.ProbesSound) (payload : List Byte) :
    (State.configureStoreRequest payload s).state.ProbesSound := by
  unfold State.configureStoreRequest
  dsimp only
  split
  · exact h
  · split
    · exact h
    · split
      · exact h
      · exact .initial (State.touches_modelChanged _).probes

theorem State.ProbesSound.configureProbe {s : State} (h : s.ProbesSound) (payload : List Byte) :
    (State.configureProbeRequest payload s).state.ProbesSound := by
  unfold State.configureProbeRequest
  rcases Option.eq_none_or_eq_some s.store with hst | ⟨st, hst⟩
  · rw [State.onStore_none hst]
    exact h
  · rw [State.onStore_some hst]
    dsimp only
    split
    · exact h
    · next n _ =>
      split
      · exact h
      · split
        · exact h
        · have fresh := (h.setAlarm n false).changeProbe (n := n)
            (f := fun _ => { Probe.initial with
              config := some (ProbeFields.ofPayload payload).config
              state := if (ProbeFields.ofPayload payload).config.enabled then .seeking else .off })
            (ProbeFields.configured_sound _)
          exact fresh.of_same rfl

/-- The owner of a request keeps the records sound. -/
theorem State.ProbesSound.owner {s : State} (h : s.ProbesSound) (c : Instr) : (c.owner s).state.ProbesSound := by
  have owned (body : LongBody) {f : List Byte → State → Reply} (hf : ∀ p, (f p s).state.ProbesSound) :
      (body.owned f s).state.ProbesSound := by
    cases body with
    | marked k => exact h
    | full p k => exact hf p
  cases hr : c.records with
  | false =>
    cases hc : c.isApart with
    | false => exact h.of_same ((owner_acts hc s).probes_of_apart hr)
    | true =>
      cases c with
      | notices | noticeEnable => exact h
      | powerOn | resetPinLow | resetPinRelease | resetFullTakesEffect | rateStrapChange => exact h
      | _ => exact nomatch hc
  | true =>
    cases c with
    | relock ch p0 p1 | clearMinMax ch p0 p1 | clearAlarm ch p0 p1 => exact h.probeClear p0 p1
    | reseed ch p0 p1 => exact h.reseed
    | configureStore ch body => exact owned body h.configureStore
    | configureProbe ch body => exact owned body h.configureProbe
    | conversionTimeout | probeReply | lockoutHoldExpiry => exact h
    | _ => exact nomatch hr

/-! ### Every step -/

theorem State.ProbesSound.whenRunning {s : State} {f : State → State} (h : s.ProbesSound) (hf : (f s).ProbesSound) :
    (s.whenRunning f).ProbesSound := by
  unfold State.whenRunning
  split
  · exact h
  · exact hf

/-- The end of a conversion, its result handed on or not. -/
theorem State.ProbesSound.endConversion {s : State} (h : s.ProbesSound) (c : Conversion) {f : State → State}
    (hf : (f s).ProbesSound) : (s.endConversion c f).ProbesSound := by
  unfold State.endConversion
  refine State.ProbesSound.of_same (s := if c.reconfigured then s else f s) ?_ (State.moveOn_probes _ _)
  split
  · exact h
  · exact hf

theorem State.ProbesSound.takeReply {s : State} (h : s.ProbesSound) (good : Bool) (address : Nat) (reading : Int) :
    (s.takeReply good address reading).ProbesSound := by
  unfold State.takeReply
  split
  · exact h
  · next c _ =>
    split
    · exact h.endConversion c (h.takeReading c.probe _)
    · exact h

theorem State.ProbesSound.timeOutConversion {s : State} (h : s.ProbesSound) : s.timeOutConversion.ProbesSound := by
  unfold State.timeOutConversion
  split
  · exact h
  · next c _ => exact h.endConversion c (h.takeTimeout c.probe)

theorem State.ProbesSound.expireHold {s : State} (h : s.ProbesSound) (n : ProbeId) : (s.expireHold n).ProbesSound := by
  unfold State.expireHold
  split
  · exact h.changeProbe (h n).expireHold
  · exact h

/-- Every command keeps the records sound. -/
theorem State.ProbesSound.exec {c : Instr} {s t : State} (h : s.ProbesSound) (he : exec c s = .next t) : t.ProbesSound := by
  cases hm : c.message with
  | some m =>
    rw [exec_request hm] at he
    cases he
    exact State.request_rel (R := fun s t => s.ProbesSound → t.ProbesSound) (fun _ => id) (fun h k hs => k (h hs))
      (fun _ _ _ => id) (fun _ => id) (fun _ h => h.owner c) s m h
  | none =>
    cases c with
    | powerOn => cases he; exact .initial rfl
    | resetPinLow => cases he; exact .initial rfl
    | resetPinRelease =>
      cases he
      split
      · exact .initial rfl
      · exact h
    | resetFullTakesEffect =>
      cases he
      refine h.whenRunning ?_
      split
      · exact .initial rfl
      · exact h
    | rateStrapChange => cases he; exact h
    | conversionTimeout => cases he; exact h.whenRunning h.timeOutConversion
    | probeReply good address reading => cases he; exact h.whenRunning (h.takeReply good address reading)
    | lockoutHoldExpiry n => cases he; exact h.whenRunning (h.expireHold n)
    | notices | noticeEnable => cases hm
    | reseed | relock | clearMinMax | clearAlarm | configureStore | configureProbe => cases hm
    | _ => exact h.of_same (Acts.probes_of_apart rfl (exec_acts rfl he))

/-- Settles O58: a period passes, or one command keeps each record. -/
theorem everyStepKeepsTheProbes : Obligations.EveryStepKeepsTheProbes := by
  intro s t h he
  unfold step at he
  split at he
  · obtain rfl | rfl | ⟨i, -, hi | hi⟩ := State.idle_cases he
    · exact h
    · intro n
      rw [State.tick_probes, PerProbe.get_map]
      exact (h n).pass
    · exact h.exec hi
    · exact State.ProbesSound.exec (s := s.chosen) h hi
  · next c rest _ => exact State.ProbesSound.exec (s := { s with pending := rest }) h he

end Sys2Proof.Machine
end

section
/-!
PROOF. The Probe Scanner and the Reconciler: scan starts, conversions and silence (R142 to R148), readings and corrections
(R149 to R156), and the requests for the probes (R157, R158).
-/

namespace Sys2Proof.Machine

/-! ### Scan starts -/

theorem State.nextEnabled_iff {s : State} {above : Nat} {n : ProbeId} : s.nextEnabled above = some n ↔
    above < n.number ∧ (s.probes.get n).enabled = true
      ∧ ∀ k : ProbeId, above < k.number → (s.probes.get k).enabled = true → n.number ≤ k.number := by
  rw [State.nextEnabled, ProbeId.find?_all_iff]
  simp only [Bool.and_eq_true, decide_eq_true_iff, and_assoc, and_imp]

/-- The Scanner with a cycle started (R143). -/
def State.started (s : State) (st : Store) : Scanner :=
  { s.scanner with
    interval := some (st.cfg.scanInterval * 32768)
    conversion := (s.nextEnabled 0).map fun n => { probe := n, timeout := 32768, reconfigured := false } }

section
variable {s : State} {st : Store}

theorem State.startCycle_of_store (hst : s.store = some st) : s.startCycle = { s with scanner := s.started st } := by
  unfold State.startCycle
  split
  · next e => exact nomatch hst.symm.trans e
  · next st' e =>
    cases hst.symm.trans e
    rfl

theorem State.takeStart_of_idle (hst : s.store = some st) (h : s.scanner.conversion = none) :
    s.takeStart = { s with scanner := s.started st } := by
  rw [State.takeStart, if_neg (by rw [h]; decide), State.startCycle_of_store hst]

theorem State.takeStart_of_flight (h : s.scanner.conversion ≠ none) :
    s.takeStart = { s with scanner := { s.scanner with rescanPending := true } } :=
  if_pos (Option.isSome_iff_ne_none.mpr h)

theorem State.expireScanInterval_of_running (h : s.scanner.interval ≠ none) :
    s.expireScanInterval = State.takeStart { s with scanner := { s.scanner with interval := none } } :=
  if_pos (Option.isSome_iff_ne_none.mpr h)

theorem State.scanRequest_eq (hst : s.store = some st) :
    s.scanRequest = s.takeStart.answer .ok (yesNo s.scanner.conversion.isSome) := by
  rw [State.scanRequest, State.onStore_some hst]

end

/-- Settles O40: the start of a scan from idle and in flight, by request and by expiry. -/
theorem scanStartsOrIsOwed : Obligations.ScanStartsOrIsOwed := by
  refine ⟨fun s above n => State.nextEnabled_iff, fun s t st hst => ⟨fun p0 p1 h => ⟨fun hc => ?_, fun hc => ?_⟩,
    fun hrun => ⟨fun hi => ?_, fun hi hc => ?_, fun hi hc => ?_⟩⟩⟩
  · have reply := State.scanRequest_eq hst
    rw [State.takeStart_of_idle hst hc, hc] at reply
    exact congrArg Host.Outcome.next (State.shortRequest_of_reply 9 (by decide) h reply)
  · have reply := State.scanRequest_eq hst
    rw [State.takeStart_of_flight hc, Option.isSome_iff_ne_none.mpr hc] at reply
    exact congrArg Host.Outcome.next (State.shortRequest_of_reply 9 (by decide) h reply)
  · exact congrArg Host.Outcome.next (State.whenRunning_of_same (if_neg (by rw [hi]; decide)))
  · refine congrArg Host.Outcome.next ((State.whenRunning_of_running hrun _).trans ?_)
    rw [State.expireScanInterval_of_running hi]
    exact State.takeStart_of_idle (s := { t with scanner := { t.scanner with interval := none } }) hst hc
  · refine congrArg Host.Outcome.next ((State.whenRunning_of_running hrun _).trans ?_)
    rw [State.expireScanInterval_of_running hi]
    exact State.takeStart_of_flight (s := { t with scanner := { t.scanner with interval := none } }) hc

/-! ### Conversions -/

section
variable {s : State} {c : Conversion}

theorem State.takeReply_of_good (h : s.scanner.conversion = some c) (r : Int) : s.takeReply true c.probe.number r =
    State.moveOn (if c.reconfigured then s else s.takeReading c.probe (min r.toNat 11000)) c.probe := by
  simp only [State.takeReply, h, beq_self_eq_true, Bool.and_self, if_true]
  rfl

theorem State.takeReply_of_other (h : s.scanner.conversion = some c) {good : Bool} {a : Nat} (r : Int)
    (hb : good = false ∨ a ≠ c.probe.number) : s.takeReply good a r = s := by
  have bad : ¬(good && a == c.probe.number) = true := by
    rw [Bool.and_eq_true, beq_iff_eq]
    rintro ⟨hg, ha⟩
    obtain hb | hb := hb
    · exact nomatch hb.symm.trans hg
    · exact hb ha
  simp only [State.takeReply, h, if_neg bad]

theorem State.takeReply_of_none (h : s.scanner.conversion = none) (good : Bool) (a : Nat) (r : Int) :
    s.takeReply good a r = s := by
  simp only [State.takeReply, h]

theorem State.timeOutConversion_of_some (h : s.scanner.conversion = some c) :
    s.timeOutConversion = State.moveOn (if c.reconfigured then s else s.takeTimeout c.probe) c.probe := by
  simp only [State.timeOutConversion, h]
  rfl

theorem State.timeOutConversion_of_none (h : s.scanner.conversion = none) : s.timeOutConversion = s := by
  simp only [State.timeOutConversion, h]

theorem State.moveOn_of_next {n k : ProbeId} (h : s.nextEnabled n.number = some k) :
    s.moveOn n = s.convert (some k) := by
  simp only [State.moveOn, h]

theorem State.moveOn_of_last {n : ProbeId} (h : s.nextEnabled n.number = none) : s.moveOn n =
    if s.scanner.rescanPending then State.startCycle { s with scanner := { s.scanner with rescanPending := false } }
    else s.convert none := by
  simp only [State.moveOn, h]

end

/-- A third silence faults a probe in SEEKING or LOCKED (R148). -/
theorem Probe.faults_iff {p : Probe} : p.faults = true ↔ 2 ≤ p.silent ∧ (p.state = .seeking ∨ p.state = .locked) := by
  simp only [Probe.faults, Bool.and_eq_true, Bool.or_eq_true, decide_eq_true_iff]
  refine and_congr ?_ Iff.rfl
  omega

/-- Settles O41: one equation for each way a conversion ends and for each way the cycle goes on. -/
theorem conversionsEndAndTheCycleMovesOn : Obligations.ConversionsEndAndTheCycleMovesOn := by
  refine ⟨fun s hrun => ?ends, fun s n => ⟨fun k h => ?_, fun h hp => ?_, fun st h hp hst => ?_⟩, fun s n => ?silence⟩
  case ends =>
    have timeout : exec .conversionTimeout s = .next s.timeOutConversion :=
      congrArg Host.Outcome.next (State.whenRunning_of_running hrun _)
    have reply (good : Bool) (a : Nat) (r : Int) : exec (.probeReply good a r) s = .next (s.takeReply good a r) :=
      congrArg Host.Outcome.next (State.whenRunning_of_running hrun _)
    refine ⟨fun hc => ⟨?_, fun good a r => ?_⟩, fun cv hc => ⟨fun good a r hb => ?_, fun r => ?_, ?_⟩⟩
    · rw [timeout, State.timeOutConversion_of_none hc]
    · rw [reply, State.takeReply_of_none hc]
    · rw [reply, State.takeReply_of_other hc r hb]
    · rw [reply, State.takeReply_of_good hc]
    · rw [timeout, State.timeOutConversion_of_some hc]
  · exact State.moveOn_of_next h
  · rw [State.moveOn_of_last h, if_neg (by rw [hp]; decide)]
    rfl
  · rw [State.moveOn_of_last h, if_pos hp]
    exact State.startCycle_of_store (s := { s with scanner := { s.scanner with rescanPending := false } }) hst
  case silence =>
    intro p faults
    have raised : ((s.probes.get n).faults || decide ((s.probes.get n).silent = 2)) = true ↔ faults ∨ p.silent = 2 := by
      rw [Bool.or_eq_true, Probe.faults_iff, decide_eq_true_iff]
    have record : p.silenced = { p with
        silent := min (p.silent + 1) 3
        state := if faults then .fault else p.state
        agree := if faults then 0 else p.agree } := by
      simp only [Probe.silenced, Probe.faults_iff]
      rfl
    rw [State.takeTimeout_eq, State.changeProbe, show Probe.silenced (s.probes.get n) = _ from record]
    by_cases hr : faults ∨ p.silent = 2
    · rw [raised.mpr hr, if_pos hr]
      rfl
    · rw [Bool.eq_false_iff.mpr (mt raised.mp hr), if_neg hr]
      rfl

/-! ### One record written -/

theorem PerProbe.set_set {α : Type} (t : PerProbe α) (n : ProbeId) (a b : α) : (t.set n a).set n b = t.set n b := by
  cases n <;> rfl

theorem PerProbe.set_get {α : Type} (t : PerProbe α) (n : ProbeId) : t.set n (t.get n) = t := by
  cases n <;> rfl

/-- A probe's record written. -/
def State.setProbe (s : State) (n : ProbeId) (p : Probe) : State := { s with probes := s.probes.set n p }

section
variable (s : State) (n : ProbeId)

theorem State.setProbe_get : s.setProbe n (s.probes.get n) = s :=
  congrArg (fun ps => { s with probes := ps }) (PerProbe.set_get s.probes n)

theorem State.probe_setProbe (p : Probe) : (s.setProbe n p).probes.get n = p := PerProbe.get_set_same _ _ _

theorem State.changeProbe_eq (f : Probe → Probe) : s.changeProbe n f = s.setProbe n (f (s.probes.get n)) := rfl

theorem State.setProbe_setProbe (p q : Probe) : (s.setProbe n p).setProbe n q = s.setProbe n q :=
  congrArg (fun ps => { s with probes := ps }) (PerProbe.set_set s.probes n p q)

theorem State.changeProbe_setProbe (p : Probe) (f : Probe → Probe) :
    (s.setProbe n p).changeProbe n f = s.setProbe n (f p) := by
  rw [State.changeProbe_eq, State.probe_setProbe, State.setProbe_setProbe]

/-- The alarm of a record just written (R150). -/
theorem State.setAlarm_setProbe (p : Probe) (alarm : Bool) : (s.setProbe n p).setAlarm n alarm =
    if p.alarm = alarm then s.setProbe n p
    else ((s.setProbe n { p with alarm := alarm }).raiseIf alarm .probeAlarm).testOverheat := by
  rw [State.setAlarm, State.probe_setProbe, State.changeProbe_setProbe]

end

/-! ### Readings -/

/-- The record after a reading, its alarm with it (R149, R150). -/
def Probe.read (p : Probe) (cfg : ProbeConfig) (r : Nat) : Probe :=
  { p.takeReading r with alarm := alarmAfter cfg.alarmMode cfg.threshold r p.alarm }

/-- The state once a reading stands in its record, a change of the alarm reported (R149, R150). -/
def State.alarmed (s : State) (n : ProbeId) (cfg : ProbeConfig) (r : Nat) : State :=
  let p := s.probes.get n
  let recorded := s.setProbe n (p.read cfg r)
  if alarmAfter cfg.alarmMode cfg.threshold r p.alarm = p.alarm then recorded
  else (recorded.raiseIf (alarmAfter cfg.alarmMode cfg.threshold r p.alarm) .probeAlarm).testOverheat

theorem State.probes_alarmed (s : State) (n : ProbeId) (cfg : ProbeConfig) (r : Nat) :
    (s.alarmed n cfg r).probes = s.probes.set n ((s.probes.get n).read cfg r) := by
  unfold State.alarmed
  dsimp only
  split
  · rfl
  · exact (State.touches_testOverheat _).probes.trans (State.raiseIf_probes _ _ _)

section
variable {s : State} {n : ProbeId} {st : Store} {cfg : ProbeConfig}

/-- A reading: the record and its alarm, then outside LOCKOUT the comparison (R149). -/
theorem State.takeReading_eq (hst : s.store = some st) (hc : (s.probes.get n).config = some cfg) (r : Nat) :
    s.takeReading n r =
      if ((s.probes.get n).takeReading r).state = .lockout then s.alarmed n cfg r
      else (s.alarmed n cfg r).compareReading n cfg st r := by
  let p := s.probes.get n
  let alarm := alarmAfter cfg.alarmMode cfg.threshold r p.alarm
  have alarmed : (s.setProbe n (p.takeReading r)).setAlarm n alarm = s.alarmed n cfg r := by
    rw [State.setAlarm_setProbe, State.alarmed]
    by_cases ha : alarm = p.alarm
    · have same : p.takeReading r = p.read cfg r := congrArg (fun b => { p.takeReading r with alarm := b }) ha.symm
      rw [if_pos (show (p.takeReading r).alarm = alarm from ha.symm), same]
      exact (if_pos ha).symm
    · rw [if_neg (show ¬(p.takeReading r).alarm = alarm from fun e => ha e.symm)]
      exact (if_neg ha).symm
  have state : ((s.alarmed n cfg r).probes.get n).state = (p.takeReading r).state := by
    rw [State.probes_alarmed, PerProbe.get_set_same]
    rfl
  have unfolded : s.takeReading n r =
      let a := (s.changeProbe n fun p => p.takeReading r).setAlarm n
        (alarmAfter cfg.alarmMode cfg.threshold r ((s.changeProbe n fun p => p.takeReading r).probes.get n).alarm)
      if (a.probes.get n).state = .lockout then a else a.compareReading n cfg st r := by
    simp only [State.takeReading, hst, hc]
  rw [unfolded, State.changeProbe_eq, State.probe_setProbe]
  dsimp only
  rw [show (Probe.takeReading (s.probes.get n) r).alarm = p.alarm from rfl,
    show (s.setProbe n ((s.probes.get n).takeReading r)).setAlarm n
      (alarmAfter cfg.alarmMode cfg.threshold r p.alarm) = s.alarmed n cfg r from alarmed, state]

end

theorem classify_agree {tolerance : Nat} {d : Int} (h1 : -(tolerance : Int) ≤ d) (h2 : d ≤ tolerance) :
    classify tolerance d = .agree := by
  rw [classify, if_neg (by omega), if_neg (by omega)]

/-- A reading apart from the model is corrected, warm or cool (R151, R152). -/
theorem State.compareReading_of_apart {s : State} {n : ProbeId} {cfg : ProbeConfig} {st : Store} {r : Nat} {d : Int}
    (hd : d = (tempAt cfg.height st.strata : Int) - r) (h : d < -(cfg.tolerance : Int) ∨ (cfg.tolerance : Int) < d) :
    s.compareReading n cfg st r = s.correct n cfg d := by
  rw [State.compareReading, ← hd]
  by_cases hw : (cfg.tolerance : Int) < d
  · rw [classify, if_pos hw]
  · rw [classify, if_neg hw, if_pos (h.resolve_right hw)]

theorem State.compareReading_of_agree {s : State} {n : ProbeId} {cfg : ProbeConfig} {st : Store} {r : Nat} {d : Int}
    (hd : d = (tempAt cfg.height st.strata : Int) - r) (h1 : -(cfg.tolerance : Int) ≤ d) (h2 : d ≤ cfg.tolerance) :
    s.compareReading n cfg st r = s.setProbe n ((s.probes.get n).agreed cfg.lockCount) := by
  rw [State.compareReading, ← hd, classify_agree h1 h2]
  rfl

theorem Probe.takeReading_eq (p : Probe) (r : Nat) : p.takeReading r =
    { p with
      last := some r
      minimum := some (min r (p.minimum.getD r)), maximum := some (max r (p.maximum.getD r))
      silent := 0
      state := if p.state = .fault then .seeking else p.state
      agree := if p.state = .fault then 0 else p.agree } := by
  obtain ⟨_, _, _, _, _, _, _, minimum, maximum, _, _⟩ := p
  cases minimum <;> cases maximum <;> simp [Probe.takeReading, Nat.min_comm, Nat.max_comm]

/-- An agreeing reading counts in SEEKING alone (R152). -/
theorem Probe.agreed_of_seeking {p : Probe} (h : p.state = .seeking) (k : Nat) :
    p.agreed k = { p with agree := p.agree + 1, state := if p.agree + 1 = k then .locked else .seeking } := if_pos h

theorem Probe.agreed_of_other {p : Probe} (h : p.state ≠ .seeking) (k : Nat) : p.agreed k = p := if_neg h

theorem State.sendCorrection_eq (s : State) (height : Nat) (c : Int) : s.sendCorrection height c =
    { s with corrections := if c = 0 then s.corrections else s.corrections ++ [{ height := height, amount := c }] } := by
  rw [State.sendCorrection]
  split <;> rfl

/-- The periods of a duration in minutes (R18). -/
theorem minutes_eq (n : Nat) : minutes n = some (n * 60 * 32768) := congrArg some (Nat.mul_assoc n 60 32768).symm

theorem State.enterLockout_eq (s : State) (n : ProbeId) (hold : Nat) : s.enterLockout n hold =
    { s with
      probes := s.probes.set n { s.probes.get n with
        state := .lockout, holdTimer := if hold = 0 then none else some (hold * 60 * 32768) }
      notices := s.notices.raise .probeLockout } := by
  rw [← minutes_eq]
  rfl

/-- Settles O42: the record and alarm, and the comparison by its class. -/
theorem readingsAlarmCompareAndCorrect : Obligations.ReadingsAlarmCompareAndCorrect := by
  intro s n r st cfg hst hc p alarm read recorded y d c limited corrected
  have readEq : p.read cfg r = read := congrArg (fun q : Probe => { q with alarm := alarm }) (p.takeReading_eq r)
  have yEq : s.alarmed n cfg r = y := by
    change (if alarm = p.alarm then s.setProbe n (p.read cfg r)
      else ((s.setProbe n (p.read cfg r)).raiseIf alarm .probeAlarm).testOverheat) = y
    rw [readEq]
    rfl
  have probe : y.probes.get n = read := by
    rw [← yEq, State.probes_alarmed, PerProbe.get_set_same]
    exact readEq
  have state : (p.takeReading r).state = if p.state = .fault then .seeking else p.state := rfl
  have taken := State.takeReading_eq hst hc r
  rw [yEq, state] at taken
  have compared (hs : p.state ≠ .lockout) : s.takeReading n r = y.compareReading n cfg st r := by
    refine taken.trans (if_neg ?_)
    split
    · decide
    · exact hs
  refine ⟨fun hs => taken.trans (if_pos ?lockout), fun hs h1 h2 => ⟨fun ho => ?other, fun hk => ?seeking⟩, fun hs ha => ?apart⟩
  case lockout =>
    rw [if_neg (show p.state ≠ .fault by rw [hs]; decide)]
    exact hs
  case other =>
    rw [compared hs, State.compareReading_of_agree rfl h1 h2, probe, Probe.agreed_of_other ho, ← probe, State.setProbe_get]
  case seeking =>
    rw [compared hs, State.compareReading_of_agree rfl h1 h2, probe, Probe.agreed_of_seeking hk]
    rfl
  case apart =>
    have sent : y.sendsCorrection n cfg d = corrected := by
      rw [State.sendsCorrection, State.changeProbe_eq, probe, State.sendCorrection_eq]
      rfl
    have counted : (Probe.corrected cfg d (y.probes.get n)).limited = limited := by
      rw [probe]
      rfl
    have amount : ((y.probes.get n).correction cfg d).1 = c.1 := by
      rw [probe]
      rfl
    rw [compared hs, State.compareReading_of_apart rfl ha, State.correct_eq, sent, counted, amount]
    refine ⟨fun hl => if_neg hl, fun hl => ⟨_, rfl, fun h0 => ?_, (if_pos hl).trans (State.enterLockout_eq _ n cfg.hold)⟩⟩
    rw [if_neg h0]
    exact (State.settleCorrections_fields _).1

/-! ### Corrections -/

/-- A correction computed from a difference beyond the tolerance: never 0, and the nearest whole one (R2, R153). -/
theorem roundDivInt_correction {d : Int} {shift tolerance : Nat} (h1 : 1 ≤ shift) (h3 : shift ≤ 3) (ht : 20 ≤ tolerance)
    (hd : (tolerance : Int) < d.natAbs) : roundDivInt (-d) (2 ^ shift) ≠ 0
      ∧ 2 * (roundDivInt (-d) (2 ^ shift) * 2 ^ shift + d).natAbs ≤ 2 ^ shift := by
  unfold roundDivInt roundDiv
  interval_cases shift <;> (simp only [Nat.reducePow, Int.reducePow]; split <;> omega)

/-- The correction operation on a list whose stratum at the height is known (R33). -/
theorem correctList_append {cfg : StoreConfig} {k : Correction} {below above : List Stratum} {x : Stratum}
    (hb : volumeOf below ≤ k.height) (hx : k.height < volumeOf below + x.volume ∨ above = []) :
    correctList cfg k (below ++ x :: above) = cfg.normalize
      (below ++ { x with temp := min ((x.temp : Int) + k.amount).toNat 11000 } :: above) := by
  rw [correctList, changeAt_append _ below k.height hb hx]
  rfl

theorem State.takeCorrection_of_cons {s : State} {st : Store} {k : Correction} {rest : List Correction}
    (hst : s.store = some st) (hc : s.corrections = k :: rest) : s.takeCorrection = State.modelChanged
      { s with corrections := rest, store := some { st with strata := correctList st.cfg k st.strata } } := by
  simp only [State.takeCorrection, hc, hst]
  rfl

/-- The corrections that wait are taken one after another (R154). -/
theorem State.settleCorrections_of_waiting {s : State} (h : s.corrections ≠ []) :
    s.settleCorrections = s.takeCorrection.settleCorrections := by
  obtain ⟨k, rest, hc⟩ := List.exists_cons_of_ne_nil h
  obtain ⟨tail, -, -⟩ := s.takeCorrection_fields
  rw [State.settleCorrections, State.settleCorrections, tail, hc]
  rfl

/-- Settles O43: the clip, the rounding, and the operation on the oldest correction. -/
theorem correctionsAreClippedAndCarriedOut : Obligations.CorrectionsAreClippedAndCarriedOut := by
  refine ⟨?clip, fun d shift tolerance h1 h3 ht hd => roundDivInt_correction h1 h3 ht hd,
    fun s st k rest below above x hrun hst hc hl hb hx => ?carried, fun s h => ⟨?_, State.settleCorrections_of_nil h⟩,
    fun s hrun h => ⟨s.takeCorrection, congrArg Host.Outcome.next (State.whenRunning_of_running hrun _),
      s.takeCorrection_fields.1, State.settleCorrections_of_waiting h⟩⟩
  case clip =>
    intro cumulative c bound low high r
    refine ⟨fun h1 h2 => ?_, fun h => ?_, fun h => ?_, clipCorrection_bounds cumulative c bound⟩
    · exact (if_neg (by omega)).trans (if_neg (by omega))
    · have clipped : r = (bound - cumulative, true) := if_pos h
      rw [clipped]
      exact ⟨rfl, by dsimp only; omega, by dsimp only; omega⟩
    · have clipped : r = (-bound - cumulative, true) := (if_neg (by omega)).trans (if_pos h)
      rw [clipped]
      exact ⟨rfl, by dsimp only; omega, by dsimp only; omega⟩
  case carried =>
    refine congrArg Host.Outcome.next ((State.whenRunning_of_running hrun _).trans ?_)
    rw [State.takeCorrection_of_cons hst hc, hl, correctList_append hb hx]
  · exact congrArg Host.Outcome.next (State.whenRunning_of_same (by simp only [State.takeCorrection, h]))

/-! ### PROBE_CLEAR -/

theorem ProbeId.ofNumber_eq_none {n : Nat} (h : n = 0 ∨ 8 < n) : ProbeId.ofNumber n = none := by
  rw [Option.eq_none_iff_forall_ne_some]
  intro p hp
  have number := ProbeId.number_of_ofNumber hp
  cases p <;> simp only [ProbeId.number] at number <;> omega

/-- A change that is named or not, of a record written. -/
theorem State.if_changeProbe (s : State) (n : ProbeId) (q : Probe) (c : Prop) [Decidable c] (f : Probe → Probe) :
    (if c then (s.setProbe n q).changeProbe n f else s.setProbe n q) = s.setProbe n (if c then f q else q) := by
  split
  · exact s.changeProbe_setProbe n q f
  · rfl

/-- The lowering of a record's alarm, its fall reported (R150, R158). -/
theorem State.lowerAlarm_setProbe (s : State) (n : ProbeId) (p : Probe) : (s.setProbe n p).setAlarm n false =
    if p.alarm = true then (s.setProbe n { p with alarm := false }).testOverheat else s.setProbe n p := by
  rw [State.setAlarm_setProbe]
  cases ha : p.alarm with
  | true => rfl
  | false => rfl

/-- The record after relock and clear min/max, as named (R158). -/
def Probe.cleared (sum : Byte) (p : Probe) : Probe :=
  let a := if sum.getLsbD 0 then p.relock else p
  if sum.getLsbD 1 then { a with minimum := none, maximum := none } else a

theorem State.clearActions_eq (s : State) (n : ProbeId) (sum : Byte) : s.clearActions n sum =
    if sum.getLsbD 2 then (s.setProbe n ((s.probes.get n).cleared sum)).setAlarm n false
    else s.setProbe n ((s.probes.get n).cleared sum) := by
  have relocked := s.if_changeProbe n (s.probes.get n) (sum.getLsbD 0 = true) Probe.relock
  rw [State.setProbe_get] at relocked
  rw [State.clearActions, relocked, State.if_changeProbe]
  rfl

theorem Probe.cleared_alarm (sum : Byte) (p : Probe) : (p.cleared sum).alarm = p.alarm := by
  have relock : p.relock.alarm = p.alarm := by
    unfold Probe.relock
    split <;> rfl
  have relocked : (if sum.getLsbD 0 then p.relock else p).alarm = p.alarm := by
    split
    · exact relock
    · rfl
  unfold Probe.cleared
  dsimp only
  split
  · exact relocked
  · exact relocked

/-- Settles O44: the three actions on one record, whichever row names the message. -/
theorem probeClearDoesTheNamedActions : Obligations.ProbeClearDoesTheNamedActions := by
  intro s t p0 p1 st h hst row hrow
  have request : exec row s = .next (s.shortRequest 10 0 p0 p1 (State.probeClearRequest p0 p1)) := by
    obtain rfl | rfl | rfl := hrow <;> rfl
  rw [request]
  refine ⟨fun hr => ?range, ?named⟩
  case range =>
    have none_ : ProbeId.ofNumber p0.toNat = none ∨ 7 < p1.toNat := by
      obtain rfl | h8 | h7 := hr
      · exact .inl rfl
      · exact .inl (ProbeId.ofNumber_eq_none (.inr h8))
      · exact .inr h7
    exact congrArg Host.Outcome.next (State.shortRequest_of_reply 10 (by decide) h (State.probeClearRequest_range hst none_))
  case named =>
    intro n hn h7 p a b u
    have record : p.cleared p1 = b := by
      have relocked : (if p1.getLsbD 0 then p.relock else p) = a := by
        simp only [Probe.relock, ← ite_and]
        rfl
      rw [Probe.cleared, relocked]
    have uEq : t.clearActions n p1 = u := by
      rw [State.clearActions_eq, show (t.probes.get n).cleared p1 = b from record, State.lowerAlarm_setProbe,
        show b.alarm = p.alarm by rw [← record, Probe.cleared_alarm], ← ite_and]
      rfl
    have state : (u.probes.get n).state = b.state := by
      by_cases hf : p1.getLsbD 2 = true ∧ p.alarm = true
      · have lowered : u = (t.setProbe n { b with alarm := false }).testOverheat := if_pos hf
        rw [lowered, (State.touches_testOverheat _).probes, State.probe_setProbe]
      · have kept : u = t.setProbe n b := if_neg hf
        rw [kept, State.probe_setProbe]
    have reply := State.probeClearRequest_eq hst (by rw [hn]; exact ProbeId.ofNumber_number n) h7
    rw [uEq, state] at reply
    refine congrArg Host.Outcome.next ((State.shortRequest_of_reply 10 (by decide) h reply).trans ?_)
    cases b.state <;> rfl

/-! ### CONFIGURE_PROBE and the hold -/

theorem field8_lt (p : List Byte) (offset : Nat) : field8 p offset ≤ 255 := Nat.le_of_lt_succ (p.getD offset 0).isLt

/-- The record CONFIGURE_PROBE writes (R157). -/
def ProbeFields.record (f : ProbeFields) : Probe :=
  { Probe.initial with config := some f.config, state := if f.config.enabled then .seeking else .off }

section
variable {t : State} {st : Store} {b : List Byte}

theorem State.configureProbeRequest_range (hst : t.store = some st)
    (h : ProbeId.ofNumber (ProbeFields.ofPayload b).probe = none ∨ 1 < (ProbeFields.ofPayload b).alarmMode
      ∨ 1 < (ProbeFields.ofPayload b).enabled ∨ st.cfg.volume < (ProbeFields.ofPayload b).height) :
    State.configureProbeRequest b t = t.answer .errRange := by
  rw [State.configureProbeRequest, State.onStore_some hst]
  dsimp only
  split
  · rfl
  · next n hn =>
    split
    · rfl
    · next modes =>
      obtain ⟨ha, he⟩ := not_or.mp modes
      refine if_pos ?_
      obtain h | h | h | h := h
      · exact nomatch h.symm.trans hn
      · exact absurd h ha
      · exact absurd h he
      · exact h

theorem State.configureProbeRequest_taken (hst : t.store = some st) {n : ProbeId}
    (hn : ProbeId.ofNumber (ProbeFields.ofPayload b).probe = some n) (ha : (ProbeFields.ofPayload b).alarmMode ≤ 1)
    (he : (ProbeFields.ofPayload b).enabled ≤ 1) (hh : (ProbeFields.ofPayload b).height ≤ st.cfg.volume) :
    State.configureProbeRequest b t =
      let u := (t.setAlarm n false).setProbe n (ProbeFields.ofPayload b).record
      State.answer { u with scanner := u.scanner.noteReconfigured n } .ok := by
  rw [State.configureProbeRequest, State.onStore_some hst]
  simp only [hn]
  rw [if_neg (by omega), if_neg (by omega)]
  rfl

end

/-- The hold that expires is a lockout's (R156). -/
theorem State.expireHold_of_lockout {s : State} {n : ProbeId} (h : (s.probes.get n).holdTimer ≠ none)
    (hs : (s.probes.get n).state = .lockout) : s.expireHold n = s.setProbe n
      { s.probes.get n with state := .seeking, cumulative := 0, limited := 0, agree := 0, holdTimer := none } := by
  rw [State.expireHold, if_pos (Option.isSome_iff_ne_none.mpr h), State.changeProbe_eq, Probe.relock, if_pos hs]

/-- Settles O45: the checks, the record written after the alarm has fallen, and the hold's expiry. -/
theorem probesAreConfiguredAndReleased : Obligations.ProbesAreConfiguredAndReleased := by
  refine ⟨fun s t body b st h good hst => ?configured, fun s n hrun => ⟨fun hh => ?stopped, fun hh hs => ?released⟩⟩
  case configured =>
    intro f tuned config
    have reply {u : State} {status : Status} (hr : State.configureProbeRequest b t = u.answer status) :
        exec (.configureProbe 0 body) s = .next (u.sent (shortAnswer 18 0 (BitVec.ofNat 8 status.code) 0)) := by
      have sent := State.longRequest_configure 18 14 (by decide) h good State.configureProbeRequest
      rw [hr] at sent
      exact congrArg Host.Outcome.next sent
    refine ⟨fun hb => reply (State.configureProbeRequest_range hst ?_),
      fun hv => reply (State.configureProbeRequest_range hst (.inr (.inr (.inr hv)))), fun n hn ha he hh => ?_⟩
    · obtain h0 | h8 | ha | he := hb
      · exact .inl (ProbeId.ofNumber_eq_none (.inl h0))
      · exact .inl (ProbeId.ofNumber_eq_none (.inr h8))
      · exact .inr (.inl ha)
      · exact .inr (.inr (.inl he))
    · intro lowered u
      have taken := State.configureProbeRequest_taken hst (n := n) (by rw [hn]; exact ProbeId.ofNumber_number n) ha he hh
      have fallen : t.setAlarm n false = u := by
        have written := t.lowerAlarm_setProbe n (t.probes.get n)
        rw [State.setProbe_get] at written
        exact written
      have scanner : u.scanner = t.scanner := by
        rw [← fallen]
        obtain ⟨-, scanner, -, -, -⟩ := t.setAlarm_fields n false
        exact scanner
      have same : f.config = config := by
        have hold : clamp 0 255 f.hold = f.hold := (clamp_zero _ _).trans (Nat.min_eq_right (field8_lt b 10))
        have enabled : (f.enabled == 1) = decide (f.enabled = 1) := beq_eq_decide _ _
        rw [ProbeFields.config, hold, enabled]
        rfl
      have record : f.record =
          { config := some config, state := if f.enabled = 1 then .seeking else .off, agree := 0, cumulative := 0
            limited := 0, silent := 0, last := none, minimum := none, maximum := none, alarm := false
            holdTimer := none } := by
        rw [ProbeFields.record, same]
        simp only [config, decide_eq_true_iff]
        rfl
      rw [fallen] at taken
      refine (reply taken).trans ?_
      rw [show (ProbeFields.ofPayload b).record = _ from record]
      exact congrArg (fun sc : Scanner => Host.Outcome.next (State.sent
        { u.setProbe n _ with scanner := sc.noteReconfigured n } (shortAnswer 18 0 0 0))) scanner
  case stopped =>
    exact congrArg Host.Outcome.next (State.whenRunning_of_same (if_neg (by rw [hh]; decide)))
  case released =>
    exact congrArg Host.Outcome.next ((State.whenRunning_of_running hrun _).trans (State.expireHold_of_lockout hh hs))

end Sys2Proof.Machine
end

section
/-!
PROOF. CONFIGURE_STORE (R178, R179), and the readings: the records byte by byte, PROFILE and the five READs (R37, R38, R86,
R110, R159, R175).
-/

namespace Sys2Proof.Machine

/-! ### CONFIGURE_STORE -/

theorem StoreConfig.fits_iff {c : StoreConfig} : c.fits = true ↔
    c.minStratum ≤ c.volume / 8 ∧ c.comfortTarget ≤ c.volume ∧ c.hygieneFloor ≤ c.volume ∧ c.auxFloor ≤ c.volume
      ∧ c.minHotVolume ≤ c.comfortTarget ∧ c.hygienePort ≤ 6 := by
  simp only [StoreConfig.fits, Bool.and_eq_true, decide_eq_true_iff, and_assoc]

section
variable {s : State} {p : List Byte}

theorem State.configureStoreRequest_volume
    (h : (StoreConfig.sent p).volume < 1000 ∨ 15000 < (StoreConfig.sent p).volume) :
    s.configureStoreRequest p = s.answer .errRange := if_pos h

theorem State.configureStoreRequest_unfit (h : ¬(StoreConfig.sent p).tuned.fits = true) :
    s.configureStoreRequest p = s.answer .errRange := by
  unfold State.configureStoreRequest
  simp [h]

section
variable (low : 1000 ≤ (StoreConfig.sent p).volume) (high : (StoreConfig.sent p).volume ≤ 15000)
  (fit : (StoreConfig.sent p).tuned.fits = true)
include low high fit

theorem State.configureStoreRequest_fit : s.configureStoreRequest p =
    if s.arbiter.anyGrant then s.answer .busy else (s.startStore (StoreConfig.sent p).tuned).answer .ok := by
  have inside : ¬((StoreConfig.sent p).tuned.volume < 1000 ∨ 15000 < (StoreConfig.sent p).tuned.volume) :=
    not_or.mpr ⟨Nat.not_lt.mpr low, Nat.not_lt.mpr high⟩
  simp only [State.configureStoreRequest, if_neg inside, fit, Bool.not_true, Bool.false_eq_true, if_false]

theorem State.configureStoreRequest_busy (h : ∃ q, s.grant q ≠ none) : s.configureStoreRequest p = s.answer .busy :=
  (State.configureStoreRequest_fit low high fit).trans (if_pos (Arbiter.anyGrant_iff.mpr h))

theorem State.configureStoreRequest_started (h : ∀ q, s.grant q = none) :
    s.configureStoreRequest p = (s.startStore (StoreConfig.sent p).tuned).answer .ok :=
  (State.configureStoreRequest_fit low high fit).trans
    (if_neg fun any => (Arbiter.anyGrant_iff.mp any).elim fun q hq => hq (h q))

end
end

theorem State.startStore_eq (s : State) (cfg : StoreConfig) : s.startStore cfg = State.modelChanged
    { s with
      store := some
        { cfg := cfg, holiday := decide (s.mode = .holiday), strata := [⟨cfg.volume, cfg.initialTemp, 0, 0⟩]
          mains := cfg.mains, ambient := cfg.ambient, lossTimer := cfg.lossInterval * 60 * 32768
          minuteTimer := 60 * 32768 }
      arbiter := State.reset.arbiter
      hygiene := State.reset.hygiene
      scanner := { State.reset.scanner with interval := some (cfg.scanInterval * 32768) }
      probes := State.reset.probes } := by
  rw [Nat.mul_assoc]
  rfl

/-- Settles O23: the record tuned is the one spelled out, and the request goes by its three checks. -/
theorem configureStoreStartsTheStore : Obligations.ConfigureStoreStartsTheStore := by
  intro s t body p h good w tuned v cfg
  have record : (StoreConfig.sent p).tuned = cfg := by
    simp only [StoreConfig.tuned, clamp_zero, Nat.min_comm 9000, Nat.min_comm 2000]
    rfl
  have reply {u : State} {status : Status} (hr : t.configureStoreRequest p = u.answer status) :
      exec (.configureStore 0 body) s = .next (u.sent (shortAnswer 16 0 (BitVec.ofNat 8 status.code) 0)) := by
    have sent := State.longRequest_configure 16 49 (by decide) h good State.configureStoreRequest
    rw [hr] at sent
    exact congrArg Host.Outcome.next sent
  have fits_iff : (StoreConfig.sent p).tuned.fits = true ↔ _ := StoreConfig.fits_iff
  have inRange (low : 1000 ≤ v) (high : v ≤ 15000) (fit : (StoreConfig.sent p).tuned.fits = true) : cfg.InRange :=
    record ▸ StoreConfig.tuned_inRange low high fit
  rw [record] at fits_iff
  refine ⟨fun out => reply (State.configureStoreRequest_volume out), fun _ _ unfit =>
    reply (State.configureStoreRequest_unfit (mt (record ▸ fits_iff).mp unfit)), fun range any => ?busy,
    fun low high fit none => ?started⟩
  case busy =>
    obtain ⟨⟨low, high⟩, -, -, -, -, ⟨-, -, thin⟩, -, -, -, -, -, -, target, hot, -, -, -, -, -, -, -, floor, port, aux,
      -⟩ := range
    exact reply (State.configureStoreRequest_busy low high (record ▸ fits_iff.mpr ⟨thin, target, floor, aux, hot, port⟩) any)
  case started =>
    have fit : (StoreConfig.sent p).tuned.fits = true := record ▸ fits_iff.mpr fit
    have started := State.configureStoreRequest_started low high fit none
    rw [State.startStore_eq, record] at started
    exact ⟨inRange low high fit, reply started⟩

/-! ### Fields and records -/

theorem unitsLeft_second (n : Nat) : unitsLeft Config.second n = (n + 32767) / 32768 :=
  congrArg (· / 32768) (Nat.add_sub_assoc (by decide : 1 ≤ 32768) n)

theorem unitsLeft_minute (n : Nat) : unitsLeft Config.minute n = (n + 1966079) / 1966080 :=
  congrArg (· / 1966080) (Nat.add_sub_assoc (by decide : 1 ≤ 1966080) n)

theorem timerLeft_second (r : Timer) : timerLeft Config.second r = (r.getD 0 + 32767) / 32768 := by
  cases r with
  | none => rfl
  | some n => exact unitsLeft_second n

theorem timerLeft_minute (r : Timer) : timerLeft Config.minute r = (r.getD 0 + 1966079) / 1966080 := by
  cases r with
  | none => rfl
  | some n => exact unitsLeft_minute n

theorem le_toNat (b : Byte) : le 1 b.toNat = [b] := by
  simp [le]

theorem le_yesNo (b : Bool) : le 1 (yesNo b) = [if b then 1 else 0] := by
  cases b <;> rfl

theorem leSigned16_eq (n : Int) : leSigned16 n = le 2 (n % 65536).toNat := by
  rw [leSigned16, BitVec.toNat_ofInt]
  rfl

/-- The part of a port's record that its configuration gives (R75, R86). -/
def PortConfig.fields (c : PortConfig) : List Byte :=
  let f := c.entry.fields
  le 1 c.source.code ++ le 1 c.entry.code ++ leOrAbsent 2 f.1 ++ leOrAbsent 2 f.2.1 ++ leOrAbsent 2 f.2.2.1
    ++ leOrAbsent 2 f.2.2.2 ++ le 2 c.supplyCap ++ leOrAbsent 1 c.source.rank ++ le 2 c.liveness

/-- The part of a port's record that follows its configuration (R86). -/
def Port.rest (p : Port) (g : Option Grant) : List Byte :=
  le 4 p.absorbed ++ le 4 p.ungranted ++ leOrAbsent 1 (p.lastEnd.map (·.handle.toNat))
    ++ leOrAbsent 1 (p.lastEnd.map (·.reason.code)) ++ leOrAbsent 1 (g.map (·.handle.toNat))

theorem Port.record_eq (p : Port) (g : Option Grant) :
    p.record g = p.config.elim (le 1 0 ++ List.replicate 14 0xFF) PortConfig.fields ++ p.rest g := by
  cases h : p.config with
  | none =>
    simp only [Port.record, h, Port.rest, List.append_assoc]
    rfl
  | some c =>
    simp only [Port.record, h, Port.rest, Option.elim_some, PortConfig.fields, List.append_assoc]
    rfl

/-! ### The readings, taken -/

theorem highByte_ofNat_any (n : Nat) : highByte (BitVec.ofNat 16 n) = BitVec.ofNat 8 (n / 256) := by
  apply BitVec.eq_of_toNat_eq
  simp [highByte, Nat.shiftRight_eq_div_pow]
  omega

/-- A long answer sent, of a body of any length. -/
theorem State.send_longOfAny {m : Message} (h : m.longAnswer = true) (s : State) (a : Answer) : s.send m a
    = s.sent (longAnswer m.kind m.channel (BitVec.ofNat 8 a.status.code) (BitVec.ofNat 8 a.value) a.body) := by
  have low (l : List Byte) : lowByte (crc16 l) = BitVec.ofNat 8 (crc16 l).toNat := by
    simpa using lowByte_ofNat (crc16 l).toNat
  have high (l : List Byte) : highByte (crc16 l) = BitVec.ofNat 8 ((crc16 l).toNat / 256) := by
    simpa using highByte_ofNat_any (crc16 l).toNat
  simp only [State.send, Message.answerWire, h, if_true, longWire, header, ident, lowByte_ofNat, highByte_ofNat_any,
    low, high]
  rfl

/-- READ of a selector, taken, with an answer of any length (R167 to R170). -/
theorem State.readRequest_taken {s t u : State} {body : LongBody} {bytes : List Byte} (b : Byte) (hb : b.toNat ≤ 4)
    (good : LongBodyGood body [b] 1) (h : s.Taking ⟨21, 0, .long body⟩ t)
    (hr : State.readRequest [b] t = u.answer .ok 0 bytes) :
    s.longRequest 21 0 body State.readRequest = u.sent (longAnswer 21 0 0 0 bytes) := by
  obtain ⟨rfl, -⟩ := good
  change State.request s ⟨21, 0, .long (.full [b] (crc16 [b]))⟩ (State.readRequest [b]) = _
  rw [State.request_taken h, State.handle_passed (failedCheck_read b hb), hr]
  exact State.send_longOfAny rfl _ _

/-- PROFILE, taken (R167 to R170). -/
theorem State.profileRequest_taken {s t u : State} {p0 p1 : Byte} {status : Status} {bytes : List Byte}
    (h : s.Taking ⟨15, 0, .short p0 p1⟩ t) (hr : t.profileRequest p0 = u.answer status 0 bytes) :
    exec (.profile 0 p0 p1) s = .next (u.sent (longAnswer 15 0 (BitVec.ofNat 8 status.code) 0 bytes)) := by
  have passed : Message.failedCheck ⟨15, 0, .short p0 p1⟩ = none :=
    (failedCheck_supervisor 15 (by decide) 0 p0 p1).trans rfl
  refine congrArg Host.Outcome.next ((State.request_taken h _).trans ((State.handle_passed passed _).trans ?_))
  rw [hr]
  exact State.send_longOfAny rfl _ _

theorem profilePoints_of_le {n : Nat} (h : n ≤ 3) : profilePoints n = some (8 * 2 ^ n) := by
  interval_cases n <;> rfl

theorem profilePoints_of_gt {n : Nat} (h : 3 < n) : profilePoints n = none := by
  obtain ⟨k, rfl⟩ : ∃ k, n = k + 4 := ⟨n - 4, by omega⟩
  rfl

theorem profile_flatMap (cfg : StoreConfig) (n : Nat) (l : List Stratum) : ((profile cfg n l).map (le 2)).flatten
    = (List.range n).flatMap fun i => le 2 (tempAt ((2 * i + 1) * cfg.volume / (2 * n)) l) := by
  rw [profile, List.map_map, List.flatMap_def]
  rfl

section
variable {t : State} {st : Store} (h : t.store = some st)
include h

theorem State.readRequest_strata : State.readRequest [0] t = t.answer .ok 0
    (le 1 st.strata.length ++ st.strata.flatMap Stratum.record) := by
  change t.readStrataRequest = _
  rw [State.readStrataRequest, State.onStore_some h]
  rfl

theorem State.readRequest_ports : State.readRequest [1] t = t.answer .ok 0
    (PortId.all.flatMap fun p => (t.port p).record (t.grant p)) := by
  change t.readPortsRequest = _
  rw [State.readPortsRequest, State.onStore_some h]
  rfl

theorem State.readRequest_grants : State.readRequest [2] t = t.answer .ok 0
    (le 1 (PortId.all.filterMap t.grant).length ++ (PortId.all.filterMap t.grant).flatMap Grant.record
      ++ le 1 t.arbiter.resume.length
      ++ (t.arbiter.resume.flatMap fun p => leOrAbsent 1 ((t.grant p).map (·.handle.toNat)))
      ++ le 1 (yesNo t.arbiter.solarActive) ++ le 1 (yesNo t.arbiter.overheat)
      ++ le 1 (yesNo t.arbiter.comfortEmergency)) := by
  change t.readGrantsRequest = _
  rw [State.readGrantsRequest, State.onStore_some h]
  rfl

theorem State.readRequest_probes : State.readRequest [3] t = t.answer .ok 0
    ((ProbeId.all.flatMap fun n => (t.probes.get n).record) ++ le 1 (yesNo t.scanner.conversion.isSome)
      ++ leOrAbsent 1 (t.scanner.conversion.map (·.probe.number)) ++ le 1 (yesNo t.scanner.rescanPending)
      ++ le 2 (((t.scanner.interval.getD 0) + 32767) / 32768)) := by
  change t.readProbesRequest = _
  rw [State.readProbesRequest, State.onStore_some h, ← timerLeft_second]
  rfl

theorem State.readRequest_summary : State.readRequest [4] t = t.answer .ok 0
    (le 4 st.headroom ++ le 2 st.hotVolume ++ le 4 st.comfortNeed ++ le 4 st.hygieneNeed
      ++ le 2 (t.arbiter.forecast - t.arbiter.mustTakeHeat) ++ le 2 st.mains ++ le 2 st.ambient
      ++ le 2 (topTemp st.strata) ++ le 1 t.hygiene.state.code ++ le 2 (((t.hygiene.limit.getD 0) + 1966079) / 1966080)
      ++ le 1 (if st.holiday then 2 else 1)) := by
  have mode : t.mode.code = if st.holiday then 2 else 1 := by
    rw [State.mode, h]
    cases hol : st.holiday <;> simp [hol, Mode.code]
  change t.readSummaryRequest = _
  rw [State.readSummaryRequest, State.onStore_some h, ← timerLeft_minute, ← mode]
  rfl

end

/-- Settles O24: each record by its configuration or class, and each request by its reading's own body. -/
theorem readingsChangeNothing : Obligations.ReadingsChangeNothing := by
  unfold Obligations.ReadingsChangeNothing
  intro absent optional yes
  have le_yes (b : Bool) : le 1 (yesNo b) = yes b := by cases b <;> rfl
  refine ⟨fun n => ?fields, fun p g => ?port, fun g => ?grant, fun p => ?probe, fun s t st hst => ?reads⟩
  case fields =>
    refine ⟨rfl, rfl, ?_, rfl, rfl⟩
    simp only [le, Nat.div_div_eq_div_mul]
  case port =>
    obtain ⟨config, absorbed, ungranted, lastEnd⟩ := p
    rw [Port.record_eq, Port.rest]
    simp only [List.append_assoc]
    congr 1
    · obtain _ | ⟨source, entry, cap, liveness⟩ := config
      · rfl
      · rw [Option.elim_some, PortConfig.fields]
        cases entry <;> obtain kind | ⟨kind, rank⟩ := source <;> cases kind <;> rfl
    · obtain _ | ⟨handle, reason⟩ := lastEnd <;> cases g <;>
        simp only [Option.map_none, Option.map_some, leOrAbsent, le_toNat] <;> rfl
  case grant =>
    obtain ⟨handle, cls, delivered, declaredSupply, liveness⟩ := g
    rw [Grant.record, unitsLeft_second, le_toNat]
    obtain held | n | _ := cls
    · cases held <;> rfl
    · obtain ⟨budget, minRun, suspendPending, suspended⟩ := n
      simp only [Grant.normal?, Option.map_some, leOrAbsent, timerLeft_second, le_yes]
      cases suspended <;> rfl
    · rfl
  case probe =>
    obtain ⟨config, state, agree, cumulative, limited, silent, last, minimum, maximum, alarm, holdTimer⟩ := p
    rw [Probe.record, leSigned16_eq, timerLeft_minute, le_yes]
    have optional_eq (r : Option Nat) : leOrAbsent 2 r = optional r := by cases r <;> rfl
    simp only [optional_eq]
    obtain _ | c := config
    · rfl
    · simp only [Option.map_some, leOrAbsent, le_yes, ← optional_eq]
      rfl
  case reads =>
    have running {f : Store → State → Reply} : t.onStore f = f st t := State.onStore_some hst f
    refine ⟨fun p0 p1 h => ⟨fun hp => ?_, fun hp => ?_⟩, fun body good h => ?_, fun body good h => ?_,
      fun body good h => ?_, fun body good h => ?_, fun body good h => ?_⟩
    · refine State.profileRequest_taken (u := t) (status := .errRange) h ?_
      rw [State.profileRequest, running, profilePoints_of_gt hp]
    · refine State.profileRequest_taken (u := t) (status := .ok) h ?_
      rw [State.profileRequest, running, profilePoints_of_le hp, ← profile_flatMap]
    · exact congrArg Host.Outcome.next (State.readRequest_taken 0 (by decide) good h (State.readRequest_strata hst))
    · exact congrArg Host.Outcome.next (State.readRequest_taken 1 (by decide) good h (State.readRequest_ports hst))
    · refine congrArg Host.Outcome.next
        ((State.readRequest_taken 2 (by decide) good h (State.readRequest_grants hst)).trans ?_)
      simp only [le_yesNo, List.append_assoc]
      rfl
    · refine congrArg Host.Outcome.next
        ((State.readRequest_taken 3 (by decide) good h (State.readRequest_probes hst)).trans ?_)
      simp only [le_yesNo]
    · refine congrArg Host.Outcome.next
        ((State.readRequest_taken 4 (by decide) good h (State.readRequest_summary hst)).trans ?_)
      cases t.hygiene.state <;> cases st.holiday <;> rfl

end Sys2Proof.Machine
end

section
/-!
PROOF. CONFIGURE_PORT (R82 to R85), and REQUEST_CHARGE by its class (R90 to R99).
-/

namespace Sys2Proof.Machine

/-! ### The fields of a CONFIGURE_PORT -/

theorem PortFields.source_of_kind {f : PortFields} (h1 : 1 ≤ f.kind) (h5 : f.kind ≤ 5) : ∃ src, f.source = some src
    ∧ src.code = f.kind ∧ (3 ≤ f.kind → src.rank = some (max 1 (min f.rank 5))) ∧ (f.kind ≤ 2 → src.rank = none) := by
  obtain ⟨port, kind, mode, bottom, top, lanceMax, height, cap, rank, liveness⟩ := f
  dsimp only at h1 h5
  obtain low | high : kind ≤ 2 ∨ 3 ≤ kind := Nat.lt_or_ge kind 3 |>.imp_left Nat.le_of_lt_succ
  · interval_cases kind <;> exact ⟨_, rfl, rfl, fun h => absurd h (by simp), fun _ => rfl⟩
  · interval_cases kind <;> exact ⟨_, rfl, rfl, fun _ => rfl, fun h => absurd h (by simp)⟩

theorem PortFields.source_none {f : PortFields} (h : f.kind = 0) : f.source = none := by
  simp only [PortFields.source, h]

theorem PortFields.entry_cases {f : PortFields} {e : Entry} (h : f.entry = some e) :
    f.mode = 1 ∧ e = .coil f.bottom f.top ∨ f.mode = 2 ∧ e = .lance (max 10 f.lanceMax)
      ∨ f.mode = 3 ∧ e = .element f.height := by
  unfold PortFields.entry at h
  split at h
  case h_1 mode => exact .inl ⟨mode, (Option.some.inj h).symm⟩
  case h_2 mode => exact .inr (.inl ⟨mode, (Option.some.inj h).symm⟩)
  case h_3 mode => exact .inr (.inr ⟨mode, (Option.some.inj h).symm⟩)
  case h_4 => cases h

theorem PortFields.entry_of_mode {f : PortFields} (h : f.mode = 1 ∨ f.mode = 2 ∨ f.mode = 3) : ∃ e, f.entry = some e := by
  obtain h | h | h := h <;> simp [PortFields.entry, h]

theorem PortFields.entry_none {f : PortFields} (h : ¬(f.mode = 1 ∨ f.mode = 2 ∨ f.mode = 3)) : f.entry = none := by
  refine Option.eq_none_iff_forall_ne_some.mpr fun e he => h ?_
  exact (PortFields.entry_cases he).imp And.left (Or.imp And.left And.left)

/-- The entry by the mode that the fields name (R77, R85). -/
theorem PortFields.entry_eq {f : PortFields} {e : Entry} (h : f.entry = some e) :
    (f.mode = 1 → e = .coil f.bottom f.top) ∧ (f.mode = 2 → e = .lance (max 10 f.lanceMax))
      ∧ (f.mode = 3 → e = .element f.height) := by
  obtain ⟨mode, rfl⟩ | ⟨mode, rfl⟩ | ⟨mode, rfl⟩ := PortFields.entry_cases h <;> simp [mode]

theorem PortFields.entry_code {f : PortFields} {e : Entry} (h : f.entry = some e) : e.code = f.mode := by
  obtain ⟨mode, rfl⟩ | ⟨mode, rfl⟩ | ⟨mode, rfl⟩ := PortFields.entry_cases h <;> exact mode.symm

/-- The heights and volumes of an entry, by the fields of its mode; the floor of 10 of a lance's maximum is within a quarter of
any V (R77, R82). -/
theorem PortFields.fits_iff {f : PortFields} {e : Entry} {volume : Nat} (h : f.entry = some e) (hv : 1000 ≤ volume) :
    e.fits volume = true ↔ (f.mode = 1 → f.bottom < f.top ∧ f.top ≤ volume) ∧ (f.mode = 3 → f.height ≤ volume)
      ∧ (f.mode = 2 → f.lanceMax ≤ volume / 4) := by
  obtain ⟨mode, rfl⟩ | ⟨mode, rfl⟩ | ⟨mode, rfl⟩ := PortFields.entry_cases h
  · simp [Entry.fits, mode, and_comm]
  · simp [Entry.fits, mode]
    omega
  · simp [Entry.fits, mode]

theorem PortFields.enterBelow_iff {f : PortFields} {src : Source} {e : Entry} {floor : Nat} (h : f.entry = some e)
    (hs : src.code = f.kind) : src.enterBelow e floor = true ↔
      3 ≤ f.kind ∧ (f.mode = 1 ∧ f.bottom < floor ∨ f.mode = 3 ∧ f.height < floor) := by
  rw [← hs]
  obtain kind | ⟨kind, rank⟩ := src <;> cases kind <;>
    obtain ⟨mode, rfl⟩ | ⟨mode, rfl⟩ | ⟨mode, rfl⟩ := PortFields.entry_cases h <;>
    simp [Source.enterBelow, Source.code, mode]

/-- The entry modes of a kind, by their codes (R77). -/
theorem Source.allows_iff (src : Source) (e : Entry) : src.allows e = true ↔
    src.code ∈ [1, 2] ∧ e.code ∈ [1, 2] ∨ src.code ∈ [3, 4] ∧ e.code = 1 ∨ src.code = 5 ∧ e.code = 3 := by
  obtain kind | ⟨kind, rank⟩ := src <;> cases kind <;> cases e <;> simp [Source.allows, Source.code, Entry.code]

/-! ### CONFIGURE_PORT -/

/-- The configuration a port takes from fields that name a source and an entry (R85). -/
def PortFields.config (f : PortFields) (src : Source) (e : Entry) : PortConfig :=
  { source := src, entry := e, supplyCap := clampTemp f.cap, liveness := livenessSent f.liveness }

section
variable {s : State} {st : Store} {b : List Byte} {p : PortId} (hst : s.store = some st)
include hst

theorem State.configurePortRequest_range
    (h : PortId.ofNumber (PortFields.ofPayload b).port = none ∨ 5 < (PortFields.ofPayload b).kind) :
    s.configurePortRequest b = s.answer .errRange := by
  rw [State.configurePortRequest, State.onStore_some hst]
  obtain h | h := h
  · simp only [h]
  · simp only [if_pos h]
    split <;> rfl

variable (hp : PortId.ofNumber (PortFields.ofPayload b).port = some p) (hk : ¬5 < (PortFields.ofPayload b).kind)
include hp hk

theorem State.configurePortRequest_noSource (h : (PortFields.ofPayload b).source = none) : s.configurePortRequest b =
    if (s.grant p).isSome then s.answer .busy else s.takePortConfig p none := by
  simp only [State.configurePortRequest, State.onStore_some hst, hp, if_neg hk, h]

variable {src : Source} (hs : (PortFields.ofPayload b).source = some src)
include hs

theorem State.configurePortRequest_noEntry (h : (PortFields.ofPayload b).entry = none) :
    s.configurePortRequest b = s.answer .errRange := by
  simp only [State.configurePortRequest, State.onStore_some hst, hp, if_neg hk, hs, h]

theorem State.configurePortRequest_entry {e : Entry} (h : (PortFields.ofPayload b).entry = some e) :
    s.configurePortRequest b =
      if !src.allows e then s.answer .errRange
      else if !e.fits st.cfg.volume then s.answer .errRange
      else if (s.grant p).isSome then s.answer .busy
      else if src.enterBelow e st.cfg.auxFloor then s.answer .refused RefusalReason.belowFloor.code
      else s.takePortConfig p (some ((PortFields.ofPayload b).config src e)) := by
  simp only [State.configurePortRequest, State.onStore_some hst, hp, if_neg hk, hs, h]
  rfl

end

theorem State.takePortConfig_eq (s : State) (p : PortId) (c : Option PortConfig) : s.takePortConfig p c = State.answer
    { s with arbiter := { s.arbiter with ports := s.arbiter.ports.set p { s.port p with config := c } } } .ok := rfl

/-- Settles O32: the source and the entry that the fields name, and the request by its checks on them. -/
theorem configurePortChecksAndSets : Obligations.ConfigurePortChecksAndSets := by
  intro s t body b st h good hst hv f allowed fits low answered
  have reply {u : State} {status : Status} {value : Nat} (hr : t.configurePortRequest b = u.answer status value) :
      exec (.configurePort 0 body) s
        = .next (u.sent (shortAnswer 17 0 (BitVec.ofNat 8 status.code) (BitVec.ofNat 8 value))) := by
    have sent := State.longRequest_configure 17 16 (by decide) h good State.configurePortRequest
    rw [hr] at sent
    exact congrArg Host.Outcome.next sent
  have outside (hr : t.configurePortRequest b = t.answer .errRange) : answered 8 0 := reply hr
  have busy (hr : t.configurePortRequest b = t.answer .busy) : answered 3 0 := reply hr
  have tooLow (hr : t.configurePortRequest b = t.answer .refused RefusalReason.belowFloor.code) : answered 1 9 := reply hr
  refine ⟨fun range => outside (State.configurePortRequest_range hst ?_), fun p port kind => ?_⟩
  · obtain h0 | h6 | h5 := range
    · exact .inl (PortId.ofNumber_eq_none (.inl h0))
    · exact .inl (PortId.ofNumber_eq_none (.inr h6))
    · exact .inr h5
  have hp : PortId.ofNumber f.port = some p := by rw [port]; exact PortId.ofNumber_number p
  have hk : ¬5 < f.kind := Nat.not_lt.mpr kind
  have free (hg : t.grant p = none) : ¬(t.grant p).isSome = true := by simp [hg]
  have taken (hg : t.grant p ≠ none) : (t.grant p).isSome = true := Option.isSome_iff_ne_none.mpr hg
  have modes : allowed → f.mode = 1 ∨ f.mode = 2 ∨ f.mode = 3 := by
    simp only [allowed, List.mem_cons, List.not_mem_nil, or_false]
    omega
  have kinds : allowed → f.kind ≠ 0 := by
    simp only [allowed, List.mem_cons, List.not_mem_nil, or_false]
    omega
  by_cases h0 : f.kind = 0
  · have none : ¬allowed := fun ok => kinds ok h0
    have taking := State.configurePortRequest_noSource hst hp hk (PortFields.source_none h0)
    refine ⟨fun h1 => absurd h0 h1, fun ok => absurd ok none, fun _ hg => busy (taking.trans (if_pos (taken hg))),
      fun ok => absurd ok none, fun _ hg => reply (taking.trans (if_neg (free hg))), fun ok => absurd ok none⟩
  · obtain ⟨src, hs, code, rank3, rank2⟩ := PortFields.source_of_kind (Nat.one_le_iff_ne_zero.mpr h0) kind
    by_cases hm : f.mode = 1 ∨ f.mode = 2 ∨ f.mode = 3
    · obtain ⟨e, he⟩ := PortFields.entry_of_mode hm
      have entry := PortFields.entry_code he
      obtain ⟨coil, lance, element⟩ := PortFields.entry_eq he
      have allows_iff : src.allows e = true ↔ allowed := by
        rw [Source.allows_iff, code, entry]
      have fits_iff : e.fits st.cfg.volume = true ↔ fits := PortFields.fits_iff he hv
      have low_iff : src.enterBelow e st.cfg.auxFloor = true ↔ low := PortFields.enterBelow_iff he code
      have request := State.configurePortRequest_entry hst hp hk hs he
      refine ⟨fun _ no => outside (request.trans ?_), fun ok no => outside (request.trans ?_), fun ok hg => ?_,
        fun ok fit hg below => tooLow (request.trans ?_), fun h1 => absurd h1 h0,
        fun ok fit hg above => ?_⟩
      · simp [mt allows_iff.mp no]
      · simp [allows_iff.mpr ok, mt fits_iff.mp no]
      · obtain ⟨ok, fit⟩ := ok.resolve_left h0
        refine busy (request.trans ?_)
        simp [allows_iff.mpr ok, fits_iff.mpr fit, taken hg]
      · simp [allows_iff.mpr ok, fits_iff.mpr fit, hg, low_iff.mpr below]
      · have set : t.configurePortRequest b = t.takePortConfig p (some (f.config src e)) := request.trans (by
          simp [allows_iff.mpr ok, fits_iff.mpr fit, hg, mt low_iff.mp above]
          rfl)
        exact ⟨f.config src e, reply (set.trans (State.takePortConfig_eq _ _ _)), code, entry, coil, lance, element,
          rank3, rank2, rfl, rfl⟩
    · have none : ¬allowed := fun ok => hm (modes ok)
      have entry : f.entry = Option.none := PortFields.entry_none hm
      exact ⟨fun _ _ => outside (State.configurePortRequest_noEntry hst hp hk hs entry), fun ok => absurd ok none,
        fun ok => absurd (ok.resolve_left h0).1 none, fun ok => absurd ok none, fun h1 => absurd h1 h0,
        fun ok => absurd ok none⟩

/-! ### A new grant -/

theorem toNat_generation_number (generation : BitVec 4) (p : PortId) :
    (generation ++ BitVec.ofNat 4 p.number).toNat = 16 * generation.toNat + p.number := by
  have small : (BitVec.ofNat 4 p.number).toNat = p.number := by cases p <;> rfl
  have lt : p.number < 2 ^ 4 := by cases p <;> decide
  rw [BitVec.toNat_append, Nat.shiftLeft_eq, small, Nat.mul_comm, ← Nat.two_pow_add_eq_or_of_lt lt]

/-- The handle of a port's next grant: the generation after its last end's over the port's number (R81, R89). -/
theorem nextHandle_eq (p : PortId) (lastEnd : Option LastEnd) : nextHandle p lastEnd =
    BitVec.ofNat 8 (16 * lastEnd.elim 0 (fun e => (e.handle.toNat / 16 + 1) % 16) + p.number) := by
  have number : p.number < 16 := by cases p <;> decide
  apply BitVec.eq_of_toNat_eq
  rw [BitVec.toNat_ofNat]
  refine (toNat_generation_number _ p).trans ?_
  cases lastEnd with
  | none =>
    have zero : (0 : BitVec 4).toNat = 0 := rfl
    simp only [Option.elim_none, zero]
    omega
  | some e =>
    have one : (1 : BitVec 4).toNat = 1 := rfl
    simp only [Option.elim_some, BitVec.toNat_add, BitVec.extractLsb'_toNat, Nat.shiftRight_eq_div_pow, one]
    omega

/-- A grant of a port as it is granted (R89, R98). -/
def State.newGrant (s : State) (p : PortId) (c : PortConfig) (cls : GrantClass) (supply : Nat) : Grant :=
  { handle := BitVec.ofNat 8 (16 * (s.port p).lastEnd.elim 0 (fun e => (e.handle.toNat / 16 + 1) % 16) + p.number)
    cls := cls, delivered := 0, declaredSupply := supply, liveness := c.liveness * 32768 }

/-- What the answer to a granted request carries after the handle: the state and the budget (R99). -/
def Grant.chargeBody (g : Grant) : List Byte := le 1 g.state.code ++ le 2 ((g.normal?.map (·.budget)).getD 0)

theorem Grant.chargeBody_mustTake (handle : Byte) (held : Bool) (delivered supply liveness : Nat) :
    Grant.chargeBody ⟨handle, .mustTake held, delivered, supply, liveness⟩ = [if held then 2 else 1, 0, 0] := by
  cases held <;> simp [Grant.chargeBody, Grant.state, GrantState.code, Grant.normal?, le]

theorem Grant.chargeBody_hygiene (handle : Byte) (delivered supply liveness : Nat) :
    Grant.chargeBody ⟨handle, .hygiene, delivered, supply, liveness⟩ = [1, 0, 0] := by
  simp [Grant.chargeBody, Grant.state, GrantState.code, Grant.normal?, le]

theorem Grant.chargeBody_normal (handle : Byte) (n : NormalGrant) (delivered supply liveness : Nat)
    (h : n.suspended = false) :
    Grant.chargeBody ⟨handle, .normal n, delivered, supply, liveness⟩ = 1 :: le 2 n.budget := by
  simp [Grant.chargeBody, Grant.state, GrantState.code, Grant.normal?, le, h]

theorem State.grantCharge_eq (s : State) (p : PortId) (c : PortConfig) (cls : GrantClass) (supply : Nat) :
    s.grantCharge p c cls supply = State.answer
      { s with arbiter := { s.arbiter with grants := s.arbiter.grants.set p (some (s.newGrant p c cls supply)) } } .ok 0
      ((s.newGrant p c cls supply).handle :: (s.newGrant p c cls supply).chargeBody) := by
  rw [State.grantCharge, nextHandle_eq]
  dsimp only
  rw [le_toNat]
  rfl

/-! ### REQUEST_CHARGE by its class -/

section
variable {s : State} {p : PortId} {b : List Byte} {st : Store} (hst : s.store = some st)
include hst

theorem State.requestChargeRequest_noPort (hc : (s.port p).config = none) :
    s.requestChargeRequest (BitVec.ofNat 3 p.number) b = s.refuseCharge .noPort none := by
  simp only [State.requestChargeRequest, State.onPort, (PortId.channel p).2.2, hst, hc]

variable {c : PortConfig} (hc : (s.port p).config = some c)
include hc

theorem State.requestChargeRequest_class (h : (ChargeFields.ofPayload b).cls ≠ 1 ∧ (ChargeFields.ofPayload b).cls ≠ 2) :
    s.requestChargeRequest (BitVec.ofNat 3 p.number) b = s.refuseCharge .errRange none := by
  simp only [State.requestChargeRequest, State.onPort, (PortId.channel p).2.2, hst, hc, if_pos h]

section
variable {kind : MustTakeKind} (hs : c.source = .mustTake kind)
include hs

theorem State.requestChargeRequest_mustTake (h : (ChargeFields.ofPayload b).cls = 1) :
    s.requestChargeRequest (BitVec.ofNat 3 p.number) b =
      if (s.grant p).isSome then s.refuseCharge .refused (some .portBusy)
      else s.grantCharge p c (.mustTake s.arbiter.overheat) (clampTemp (ChargeFields.ofPayload b).supply) := by
  simp only [State.requestChargeRequest, State.onPort, (PortId.channel p).2.2, hst, hc, h, hs]
  rfl

theorem State.requestChargeRequest_mustTakeHygiene (h : (ChargeFields.ofPayload b).cls = 2) :
    s.requestChargeRequest (BitVec.ofNat 3 p.number) b = s.refuseCharge .refused (some .notHygienePort) := by
  simp only [State.requestChargeRequest, State.onPort, (PortId.channel p).2.2, hst, hc, h, hs]
  rfl

end

variable {kind : AuxKind} {rank : Nat} (hs : c.source = .auxiliary kind rank)
include hs

theorem State.requestChargeRequest_normal (h : (ChargeFields.ofPayload b).cls = 1) :
    s.requestChargeRequest (BitVec.ofNat 3 p.number) b =
      if (ChargeFields.ofPayload b).wanted = 0 then s.refuseCharge .errRange none
      else if (s.grant p).isSome then s.refuseCharge .refused (some .portBusy)
      else s.requestNormal p c st rank (ChargeFields.ofPayload b).wanted (clampTemp (ChargeFields.ofPayload b).supply) := by
  simp only [State.requestChargeRequest, State.onPort, (PortId.channel p).2.2, hst, hc, h, hs]
  rfl

theorem State.requestChargeRequest_hygiene (h : (ChargeFields.ofPayload b).cls = 2) :
    s.requestChargeRequest (BitVec.ofNat 3 p.number) b =
      if st.cfg.hygienePort ≠ p.number then s.refuseCharge .refused (some .notHygienePort)
      else if (s.grant p).isSome then s.refuseCharge .refused (some .portBusy)
      else s.requestHygiene p c st (clampTemp (ChargeFields.ofPayload b).supply) := by
  simp only [State.requestChargeRequest, State.onPort, (PortId.channel p).2.2, hst, hc, h, hs]
  rfl

end

section
variable {s t u : State} {q : PortId} {body : LongBody} {b : List Byte}
  (h : s.Taking ⟨19, BitVec.ofNat 3 q.number, .long body⟩ t) (good : LongBodyGood body b 5)
include h good

theorem exec_requestCharge_refused {status : Status} {reason : Option RefusalReason}
    (hr : t.requestChargeRequest (BitVec.ofNat 3 q.number) b = u.refuseCharge status reason) :
    exec (.requestCharge (BitVec.ofNat 3 q.number) body) s
      = .next (u.sent (longAnswer 19 (BitVec.ofNat 3 q.number) (BitVec.ofNat 8 status.code)
        (BitVec.ofNat 8 ((reason.map RefusalReason.code).getD 0)) [0xFF, 0, 0, 0])) := by
  have sent := State.longRequest_port 19 (by decide) h good (State.requestChargeRequest (BitVec.ofNat 3 q.number))
    (by rw [hr]; exact (by decide : 4 < 65534))
  rw [hr] at sent
  exact congrArg Host.Outcome.next sent

theorem exec_requestCharge_granted {c : PortConfig} {cls : GrantClass} {supply : Nat}
    (hr : t.requestChargeRequest (BitVec.ofNat 3 q.number) b = u.grantCharge q c cls supply) :
    exec (.requestCharge (BitVec.ofNat 3 q.number) body) s = .next (State.sent
      { u with arbiter := { u.arbiter with grants := u.arbiter.grants.set q (some (u.newGrant q c cls supply)) } }
      (longAnswer 19 (BitVec.ofNat 3 q.number) 0 0 ((u.newGrant q c cls supply).handle
        :: (u.newGrant q c cls supply).chargeBody))) := by
  have sent := State.longRequest_port 19 (by decide) h good (State.requestChargeRequest (BitVec.ofNat 3 q.number))
    (by rw [hr]; exact (by decide : 4 < 65534))
  rw [hr, State.grantCharge_eq] at sent
  exact congrArg Host.Outcome.next sent

end

/-- Settles O33: the request by its class and the port's source. -/
theorem chargeRequestsWithoutBudget : Obligations.ChargeRequestsWithoutBudget := by
  intro s t q body b st h good hst ch f refused generation handle
  have handle_eq (c : PortConfig) (cls : GrantClass) (supply : Nat) : t.newGrant q c cls supply =
      { handle := handle, cls := cls, delivered := 0, declaredSupply := supply, liveness := c.liveness * 32768 } := by
    simp only [State.newGrant, handle, generation]
    cases (t.port q).lastEnd <;> rfl
  have range (hr : t.requestChargeRequest ch b = t.refuseCharge .errRange none) : refused 8 0 :=
    exec_requestCharge_refused h good hr
  have refuse {reason : RefusalReason} (hr : t.requestChargeRequest ch b = t.refuseCharge .refused (some reason)) :
      refused 1 (BitVec.ofNat 8 reason.code) := exec_requestCharge_refused h good hr
  have taken (hg : t.grant q ≠ none) : (t.grant q).isSome = true := Option.isSome_iff_ne_none.mpr hg
  have free (hg : t.grant q = none) : ¬(t.grant q).isSome = true := by simp [hg]
  refine ⟨fun hc => exec_requestCharge_refused h good (State.requestChargeRequest_noPort hst hc), fun c hc =>
    ⟨fun h1 h2 => range (State.requestChargeRequest_class hst hc ⟨h1, h2⟩), fun k r hs h1 h0 => range ?_,
      fun k hs h2 => refuse (State.requestChargeRequest_mustTakeHygiene hst hc hs h2),
      fun k r hs h2 hp => refuse (reason := .notHygienePort) ?_, fun k hs h1 hg => refuse (reason := .portBusy) ?_,
      fun k r hs h1 h0 hg => refuse (reason := .portBusy) ?_, fun k r hs h2 hp hg => refuse (reason := .portBusy) ?_,
      fun k hs h1 hg => ?mustTake, fun k r hs h2 hp hg => ?hygiene⟩⟩
  · exact (State.requestChargeRequest_normal hst hc hs h1).trans (if_pos h0)
  · exact (State.requestChargeRequest_hygiene hst hc hs h2).trans (if_pos hp)
  · exact (State.requestChargeRequest_mustTake hst hc hs h1).trans (if_pos (taken hg))
  · exact (State.requestChargeRequest_normal hst hc hs h1).trans ((if_neg h0).trans (if_pos (taken hg)))
  · exact (State.requestChargeRequest_hygiene hst hc hs h2).trans ((if_neg (not_not.mpr hp)).trans (if_pos (taken hg)))
  case mustTake =>
    have granted := exec_requestCharge_granted h good
      ((State.requestChargeRequest_mustTake hst hc hs h1).trans (if_neg (free hg)))
    rw [handle_eq, Grant.chargeBody_mustTake] at granted
    exact granted
  case hygiene =>
    have asked := (State.requestChargeRequest_hygiene hst hc hs h2).trans ((if_neg (not_not.mpr hp)).trans (if_neg (free hg)))
    refine ⟨fun hov => refuse (reason := .noRoom) (asked.trans (if_pos hov)), fun hov hdue =>
      refuse (reason := .notDue) (asked.trans ((if_neg (by simp [hov])).trans (if_pos hdue))), fun hov hdue => ?_⟩
    have granted := exec_requestCharge_granted h good
      (asked.trans ((if_neg (by simp [hov])).trans (if_neg (not_not.mpr hdue))))
    rw [minutes_eq] at granted
    have same : ({ t with hygiene := { state := .inProgress, limit := some (st.cfg.hygieneLimit * 60 * 32768) } } : State).newGrant q c
        .hygiene (clampTemp f.supply) = t.newGrant q c .hygiene (clampTemp f.supply) := rfl
    rw [same, handle_eq, Grant.chargeBody_hygiene] at granted
    exact granted

/-! ### NORMAL requests -/

section
variable {s : State} {p : PortId} {c : PortConfig} {st : Store} {rank wanted supply : Nat}

theorem State.requestNormal_overheat (h : s.arbiter.overheat = true) :
    s.requestNormal p c st rank wanted supply = s.refuseCharge .refused (some .noRoom) := if_pos h

variable (h : s.arbiter.overheat = false)
include h

theorem State.requestNormal_holiday (hh : st.holiday = true) :
    s.requestNormal p c st rank wanted supply = s.refuseCharge .refused (some .inHoliday) := by
  simp only [State.requestNormal, h, hh, if_true, Bool.false_eq_true, if_false]

variable (hh : st.holiday = false)
include hh

theorem State.requestNormal_deferred (hs : s.arbiter.solarActive = true) (he : s.arbiter.comfortEmergency = false) :
    s.requestNormal p c st rank wanted supply = s.refuseCharge .refused (some .deferred) := by
  simp [State.requestNormal, h, hh, hs, he]

variable (hs : s.arbiter.solarActive = false ∨ s.arbiter.comfortEmergency = true)
include hs

theorem State.requestNormal_supply : s.requestNormal p c st rank wanted supply =
    if supply < st.cfg.tComfort then s.refuseCharge .refused (some .tooCool)
    else if allowance st (s.outrank st p rank wanted).arbiter p wanted = 0 then
      (s.outrank st p rank wanted).refuseCharge .refused
        (some (if freeNeed st (s.outrank st p rank wanted).arbiter p = 0 then .noNeed else .noRoom))
    else (s.outrank st p rank wanted).grantCharge p c
      (.normal { budget := allowance st (s.outrank st p rank wanted).arbiter p wanted, minRun := startMinRun st.cfg.minRun
                 suspendPending := false, suspended := false }) supply := by
  have deferred : ¬(s.arbiter.solarActive && !s.arbiter.comfortEmergency) = true := by
    obtain hs | hs := hs <;> simp [hs]
  simp only [State.requestNormal, h, hh, if_neg deferred, Bool.false_eq_true, if_false]

end

/-- A port without a grant is as it was after outranking (R96). -/
theorem State.port_outrank {s : State} {q : PortId} (h : s.grant q = none) (st : Store) (p : PortId) (rank wanted : Nat) :
    (s.outrank st p rank wanted).port q = s.port q := by
  obtain ⟨-, spec⟩ := outrankingTakesTheLowestRankFirst
  obtain ⟨-, -, -, -, -, kept, -⟩ := spec s st p rank wanted
  exact (kept q (.inl h)).2

theorem State.newGrant_congr {s u : State} {p : PortId} (h : u.port p = s.port p) (c : PortConfig) (cls : GrantClass)
    (supply : Nat) : u.newGrant p c cls supply = s.newGrant p c cls supply := by
  rw [State.newGrant, h, State.newGrant]

/-- Settles O34: the gates in their order, and the allowance after outranking; the asking port, which holds no grant, keeps its
last end through it. -/
theorem normalRequestsGetTheAllowance : Obligations.NormalRequestsGetTheAllowance := by
  intro s t q body b st c k rank h good hst hc hs h1 h0 hg ch f a refused generation handle opened u need allowed
  have asked : t.requestChargeRequest ch b = t.requestNormal q c st rank f.wanted (clampTemp f.supply) :=
    (State.requestChargeRequest_normal hst hc hs h1).trans ((if_neg h0).trans (if_neg (by simp [hg])))
  have refuse {v : State} {reason : RefusalReason}
      (hr : t.requestChargeRequest ch b = v.refuseCharge .refused (some reason)) :
      refused v (BitVec.ofNat 8 reason.code) := exec_requestCharge_refused h good hr
  have admitted (ho : opened) : t.requestChargeRequest ch b = _ :=
    asked.trans ((State.requestNormal_supply ho.1 ho.2.1 ho.2.2.1).trans (if_neg (Nat.not_lt.mpr ho.2.2.2)))
  refine ⟨fun hov => refuse (reason := .noRoom) (asked.trans (State.requestNormal_overheat hov)),
    fun hov hh => refuse (reason := .inHoliday) (asked.trans (State.requestNormal_holiday hov hh)),
    fun hov hh hsol he => refuse (reason := .deferred) (asked.trans (State.requestNormal_deferred hov hh hsol he)),
    fun hov hh hsol hcool => refuse (reason := .tooCool)
      (asked.trans ((State.requestNormal_supply hov hh hsol).trans (if_pos hcool))), fun ho hn => ?_, fun ho hn hr => ?_,
    fun ho ha => ?_⟩
  · have none : allowed = 0 := by simp only [allowed, hn, Nat.zero_min, Nat.min_zero]
    refine refuse (reason := .noNeed) ((admitted ho).trans ((if_pos none).trans ?_))
    rw [if_pos hn]
  · have none : allowed = 0 := by simp only [allowed, hr, Nat.min_zero]
    refine refuse (reason := .noRoom) ((admitted ho).trans ((if_pos none).trans ?_))
    rw [if_neg hn]
  · have granted := exec_requestCharge_granted h good ((admitted ho).trans (if_neg ha))
    have new (cls : GrantClass) (supply : Nat) :
        (t.outrank st q rank f.wanted).newGrant q c cls supply = ⟨handle, cls, 0, supply, c.liveness * 32768⟩ := by
      rw [State.newGrant_congr (State.port_outrank hg st q rank f.wanted)]
      simp only [State.newGrant, handle, generation]
      cases (t.port q).lastEnd <;> rfl
    rw [new, Grant.chargeBody_normal _ _ _ _ _ rfl] at granted
    exact granted

end Sys2Proof.Machine
end

section
/-!
PROOF. DEPOSIT (R41 to R57): heat laid in and counted as ungranted; and heat booked to a grant, its report acted on and its
answer, whatever the report does to the grant meanwhile.
-/

namespace Sys2Proof.Machine

/-! ### The answers -/

theorem depositBody_unmatched (outcome absorbed rejected : Nat) (hold : Bool) :
    depositBody outcome absorbed rejected 0 0 hold =
      [BitVec.ofNat 8 outcome] ++ le 2 absorbed ++ le 2 rejected ++ [0, 0, 0, 0, 0, 0, if hold then 1 else 0] := by
  cases hold <;> rfl

section
variable {s t : State} {q : PortId} {body : LongBody} {b : List Byte}
  (h : s.Taking ⟨20, BitVec.ofNat 3 q.number, .long body⟩ t) (good : LongBodyGood body b 5)
include h good

theorem exec_deposit_of_reply {u : State} {status : Status} {outcome absorbed rejected remaining need : Nat} {hold : Bool}
    (hr : t.depositRequest (BitVec.ofNat 3 q.number) b =
      u.answer status 0 (depositBody outcome absorbed rejected remaining need hold)) :
    exec (.deposit (BitVec.ofNat 3 q.number) body) s = .next (u.sent (longAnswer 20 (BitVec.ofNat 3 q.number)
      (BitVec.ofNat 8 status.code) 0 (depositBody outcome absorbed rejected remaining need hold))) := by
  have sent := State.longRequest_port 20 (by decide) h good (State.depositRequest (BitVec.ofNat 3 q.number))
    (by rw [hr]; exact (by decide : 12 < 65534))
  rw [hr] at sent
  exact congrArg Host.Outcome.next sent

end

/-! ### The request by the match of its handle -/

section
variable {s : State} {p : PortId} {b : List Byte} {st : Store} (hst : s.store = some st)
include hst

theorem State.depositRequest_noPort (hc : (s.port p).config = none) :
    s.depositRequest (BitVec.ofNat 3 p.number) b = s.refuseDeposit .noPort := by
  simp only [State.depositRequest, State.onPort, (PortId.channel p).2.2, hst, hc]

variable {c : PortConfig} (hc : (s.port p).config = some c)
include hc

theorem State.depositRequest_current {g : Grant} (hm : s.matchHandle p (DepositFields.ofPayload b).handle = .current g) :
    s.depositRequest (BitVec.ofNat 3 p.number) b =
      s.matchedDeposit p c st g (DepositFields.ofPayload b).energy (DepositFields.ofPayload b).supply := by
  simp only [State.depositRequest, State.onPort, (PortId.channel p).2.2, hst, hc, hm]

theorem State.depositRequest_lastEnd {r : Reason} (hm : s.matchHandle p (DepositFields.ofPayload b).handle = .lastEnd r) :
    s.depositRequest (BitVec.ofNat 3 p.number) b =
      s.unmatchedDeposit p c st .stale r.code (DepositFields.ofPayload b).energy (DepositFields.ofPayload b).supply := by
  simp only [State.depositRequest, State.onPort, (PortId.channel p).2.2, hst, hc, hm]

theorem State.depositRequest_neither (hm : s.matchHandle p (DepositFields.ofPayload b).handle = .neither) :
    s.depositRequest (BitVec.ofNat 3 p.number) b =
      s.unmatchedDeposit p c st .ungranted 0 (DepositFields.ofPayload b).energy (DepositFields.ofPayload b).supply := by
  simp only [State.depositRequest, State.onPort, (PortId.channel p).2.2, hst, hc, hm]

end

/-! ### Heat that matches no grant -/

theorem State.raiseIf_eq (s : State) (c : Bool) (n : Notice) :
    s.raiseIf c n = { s with notices := (s.raiseIf c n).notices } := by
  cases c <;> rfl

/-- The heat of a deposit laid in (R45 to R51). -/
theorem State.layIn_eq (s : State) (c : PortConfig) (st : Store) (e sent : Nat) : s.layIn c st e sent =
    let d := depositList st.cfg c.entry (e * 860) (min (min sent c.supplyCap) 11000) st.strata
    ({ s with store := some { st with strata := d.1 }, notices := (s.raiseIf d.2 .forcedMerge).notices },
      absorbedWh e st.strata d.1) := by
  rw [State.layIn, State.raiseIf_eq]
  rfl

section
variable (s : State) (p : PortId) (c : PortConfig) (st : Store) (status : Status) (outcome sent : Nat)

theorem State.unmatchedDeposit_zero : s.unmatchedDeposit p c st status outcome 0 sent =
    s.answer status 0 (depositBody outcome 0 0 0 0 s.arbiter.overheat) := rfl

theorem State.unmatchedDeposit_some {e : Nat} (h : e ≠ 0) : s.unmatchedDeposit p c st status outcome e sent =
    let l := s.layIn c st e sent
    let u := (l.1.bookUngranted p l.2).modelChanged
    u.answer status 0 (depositBody outcome l.2 (e - l.2) 0 0 u.arbiter.overheat) := if_neg h

end

/-- Settles O36: the match fails, and the deposit by its energy. -/
theorem unmatchedDepositsAreCountedUngranted : Obligations.UnmatchedDepositsAreCountedUngranted := by
  intro s t q body b st h good hst ch f reply
  refine ⟨fun hc => ?_, fun c hc unnamed => ?matched⟩
  · have refused := exec_deposit_of_reply h good (State.depositRequest_noPort hst hc)
    rw [depositBody_unmatched] at refused
    exact refused
  intro d a u
  have answered {status : Status} {outcome : Nat}
      (hr : t.depositRequest ch b = t.unmatchedDeposit q c st status outcome f.energy f.supply) :
      (f.energy = 0 → exec (.deposit ch body) s =
        .next (t.sent (reply (BitVec.ofNat 8 status.code) (BitVec.ofNat 8 outcome) 0 0 t.arbiter.overheat)))
      ∧ (f.energy ≠ 0 → exec (.deposit ch body) s =
        .next (u.sent (reply (BitVec.ofNat 8 status.code) (BitVec.ofNat 8 outcome) a f.energy u.arbiter.overheat))) := by
    refine ⟨fun h0 => ?_, fun h1 => ?_⟩
    · rw [h0] at hr
      have done := exec_deposit_of_reply h good (hr.trans (State.unmatchedDeposit_zero ..))
      rw [depositBody_unmatched] at done
      exact done
    · have taken := hr.trans (State.unmatchedDeposit_some t q c st status outcome f.supply h1)
      rw [State.layIn_eq] at taken
      have done := exec_deposit_of_reply (u := u) (absorbed := a) h good taken
      rw [depositBody_unmatched] at done
      exact done
  refine ⟨fun e he hh => answered (State.depositRequest_lastEnd hst hc (State.matchHandle_lastEnd unnamed he hh)),
    fun he => answered (State.depositRequest_neither hst hc (State.matchHandle_neither unnamed he))⟩

end Sys2Proof.Machine
end

section
/-!
PROOF. A deposit that matches its port's grant (R52 to R57): what the report's moves leave of the grant that the handle names,
and how a run that the report completes ends (R136, R139).
-/

namespace Sys2Proof.Machine

/-! ### The grant a handle names, through the moves -/

/-- A handle names a port's grant, or the end of the port's last one. -/
def State.Names (s : State) (p : PortId) (handle : Byte) : Prop :=
  (∃ g, s.grant p = some g ∧ g.handle = handle) ∨ s.grant p = none ∧ ∃ r, (s.port p).lastEnd = some ⟨handle, r⟩

section
variable {s t : State} {p : PortId} {handle : Byte}

theorem State.Names.of_same (h : s.Names p handle) (grant : t.grant p = s.grant p) (port : t.port p = s.port p) :
    t.Names p handle := by
  rw [State.Names, grant, port]
  exact h

theorem State.Names.retuned (h : s.Names p handle) {gs : PerPort (Option Grant)} (hr : Retuned s.arbiter.grants gs)
    (grants : t.arbiter.grants = gs) (port : t.port p = s.port p) : t.Names p handle := by
  subst grants
  obtain ⟨g, hg, hh⟩ | ⟨hg, last⟩ := h
  · obtain ⟨k, hk, tuned⟩ := hr.grant' hg
    exact .inl ⟨k, hk, tuned.handle.trans hh⟩
  · refine .inr ⟨Option.eq_none_iff_forall_ne_some.mpr fun k hk => ?_, port ▸ last⟩
    obtain ⟨g, hg', -⟩ := hr.grant hk
    exact nomatch hg.symm.trans hg'

theorem State.Names.retireHoldingSolar (h : s.Names p handle) (q : PortId) (r : Reason) :
    (s.retireHoldingSolar q r).Names p handle := by
  cases hq : s.grant q with
  | none => rwa [State.retireHoldingSolar_none hq]
  | some k =>
    have grant := s.grant_retireHoldingSolar q p r
    have port := State.port_retireHoldingSolar hq r p
    by_cases hp : p = q
    · subst hp
      rw [if_pos rfl] at grant port
      obtain ⟨g, hg, hh⟩ | ⟨hg, -⟩ := h
      · refine .inr ⟨grant, r, ?_⟩
        rw [port, ← hh, Option.some.inj (hg.symm.trans hq)]
      · exact nomatch hg.symm.trans hq
    · rw [if_neg hp] at grant port
      exact h.of_same grant port

theorem State.Names.retireAll (r : Reason) : ∀ (ps : List PortId) {s : State}, s.Names p handle →
    (s.retireAll r ps).Names p handle
  | [], _, h => h
  | q :: ps, _, h => State.Names.retireAll r ps (h.retireHoldingSolar q r)

/-- No move loses the grant that a handle names, or its end. -/
theorem State.Names.move (m : Move s t) (h : s.Names p handle) : t.Names p handle := by
  cases m with
  | raise | chosen | due | clean => exact h
  | arbiter a hg hp => exact h.of_same (congrArg (PerPort.get · p) hg) (congrArg (PerPort.get · p) hp)
  | retune gs hr => exact h.retuned hr rfl rfl
  | retire q r => exact h.retireHoldingSolar q r
  | hold held =>
    have grant : State.grant { s with arbiter := { s.arbiter.holdMustTake held with overheat := held } } p
        = (s.grant p).map (Grant.heldAs held) := Arbiter.grant_holdMustTake s.arbiter held p
    obtain ⟨g, hg, hh⟩ | ⟨hg, last⟩ := h
    · exact .inl ⟨g.heldAs held, grant.trans (by rw [hg]; rfl), (g.heldAs_fields held).1.trans hh⟩
    · exact .inr ⟨grant.trans (by rw [hg]; rfl), last⟩
  | complete => exact State.Names.retireAll _ _ (s := { s with hygiene := { state := .clear, limit := none } }) h

theorem State.Names.moves (m : Moves s t) (h : s.Names p handle) : t.Names p handle := Moves.keep State.Names.move m h

theorem State.Names.matchHandle_current (h : s.Names p handle) {g : Grant} (hg : s.grant p = some g) :
    s.matchHandle p handle = .current g := by
  obtain ⟨k, hk, hh⟩ | ⟨hn, -⟩ := h
  · cases hg.symm.trans hk
    exact State.matchHandle_current hg hh
  · exact nomatch hn.symm.trans hg

theorem State.Names.matchHandle_lastEnd (h : s.Names p handle) (hg : s.grant p = none) :
    ∃ r, (s.port p).lastEnd = some ⟨handle, r⟩ ∧ s.matchHandle p handle = .lastEnd r := by
  obtain ⟨k, hk, -⟩ | ⟨-, r, last⟩ := h
  · exact nomatch hg.symm.trans hk
  · exact ⟨r, last, State.matchHandle_lastEnd (fun k hk => nomatch hg.symm.trans hk) last rfl⟩

end

/-! ### What the report leaves of a hygiene run -/

theorem State.TouchesGrants.store {s t : State} (h : s.TouchesGrants t) : t.store = s.store := by rw [h.1]

/-- The Monitor left as it was, or a run in progress failed. -/
def State.KeepsRun (s t : State) : Prop :=
  t.hygiene = s.hygiene ∨ s.hygiene.state = .inProgress ∧ t.hygiene = { state := .due, limit := none }

theorem State.KeepsRun.refl (s : State) : s.KeepsRun s := .inl rfl

theorem State.KeepsRun.trans {s t u : State} (h : s.KeepsRun t) (k : t.KeepsRun u) : s.KeepsRun u := by
  obtain h | ⟨running, h⟩ := h
  · rw [State.KeepsRun, ← h]
    exact k
  · obtain k | ⟨-, k⟩ := k
    · exact .inr ⟨running, k.trans h⟩
    · exact .inr ⟨running, k⟩

theorem State.keepsRun_retireHoldingSolar (s : State) (p : PortId) (r : Reason) : s.KeepsRun (s.retireHoldingSolar p r) := by
  cases hg : s.grant p with
  | none => rw [State.retireHoldingSolar_none hg]; exact .refl s
  | some g =>
    by_cases hf : g.cls = .hygiene ∧ r ≠ .completed ∧ s.hygiene.state = .inProgress
    · obtain ⟨hh, hr, hs⟩ := hf
      exact .inr ⟨hs, by rw [State.retireHoldingSolar_of_failed hg hh hr hs]⟩
    · exact .inl (by rw [State.retireHoldingSolar_of_grant hg hf])

theorem State.keepsRun_foldl {α : Type} (f : State → α → State) (hf : ∀ (s : State) (a : α), s.KeepsRun (f s a)) :
    ∀ (l : List α) (s : State), s.KeepsRun (l.foldl f s)
  | [], s => .refl s
  | a :: l, s => (hf s a).trans (State.keepsRun_foldl f hf l (f s a))

theorem State.keepsRun_pushResume (s : State) (p : PortId) : s.KeepsRun (s.pushResume p) := by
  unfold State.pushResume
  dsimp only
  split
  · split
    · exact s.keepsRun_retireHoldingSolar _ _
    · exact .refl s
  · exact .refl s

theorem State.keepsRun_standAsidePort (s : State) (p : PortId) : s.KeepsRun (s.standAsidePort p) := by
  unfold State.standAsidePort
  split
  · exact .refl s
  · split
    · exact .refl s
    · split
      · exact State.keepsRun_pushResume _ p
      · exact .refl s

theorem State.keepsRun_testOverheat (s : State) : s.KeepsRun s.testOverheat := by
  unfold State.testOverheat
  split
  · exact .refl s
  · split <;> split
    · exact .refl s
    · exact .refl s
    · exact State.keepsRun_foldl _ (fun s p => s.keepsRun_retireHoldingSolar p .overheat) _ s
    · exact .refl s

theorem State.keepsRun_compareComfort (s : State) : s.KeepsRun s.compareComfort := by
  unfold State.compareComfort
  split
  · exact .refl s
  · split
    · exact .refl s
    · split <;> split
      · exact .refl s
      · rw [State.enterEmergency_eq]
        exact .inl (State.hygiene_popResume _)
      · rw [State.leaveEmergency_eq]
        dsimp only
        split
        · exact State.keepsRun_foldl _ State.keepsRun_standAsidePort _ { s with arbiter := _ }
        · exact .refl s
      · exact .refl s

/-- A run that has been completed, or was owed and found done (R134, R136). -/
def State.RunOver (s : State) : Prop :=
  s.hygiene = { state := .clear, limit := none } ∧ s.notices.flags.getLsbD Notice.hygieneDone.bit = true

theorem State.RunOver.keeps {s t : State} (h : s.RunOver) (k : s.KeepsRun t) (m : Moves s t) : t.RunOver := by
  obtain ⟨hygiene, flag⟩ := h
  obtain k | ⟨running, -⟩ := k
  · exact ⟨k.trans hygiene, m.touches.flag flag⟩
  · rw [hygiene] at running
    cases running

theorem State.RunOver.noHygiene {s : State} (h : s.RunOver) (sound : s.HygieneSound) {p : PortId} {g : Grant}
    (hg : s.grant p = some g) : g.cls ≠ .hygiene := by
  intro hcls
  have running := sound.1.mpr ⟨p, g, hg, hcls⟩
  rw [h.1] at running
  cases running

section
variable {s : State} {st : Store} (sound : s.HygieneSound) (hst : s.store = some st) (clean : st.clean = true)
include sound hst clean

/-- The look at a clean store leaves no run and none owed. -/
theorem State.hygieneLook_runOver (wanted : s.hygiene.state ≠ .clear) : s.hygieneLook.RunOver := by
  cases h : s.hygiene.state with
  | clear => exact absurd h wanted
  | due =>
    obtain ⟨-, -, limit⟩ := sound
    have none : s.hygiene.limit = none := not_not.mp fun hl => nomatch h.symm.trans (limit.mp hl)
    rw [State.hygieneLook_of_due hst h, if_pos clean]
    exact ⟨congrArg (Hygiene.mk .clear) none, NoticeRegister.raise_bit _ _⟩
  | inProgress =>
    rw [State.hygieneLook_of_inProgress hst h, if_pos clean]
    exact ⟨State.hygiene_retireAll_completed _ _,
      (State.touches_retireAll _ _ _).flag (NoticeRegister.raise_bit s.notices .hygieneDone)⟩

variable (running : s.hygiene.state = .inProgress)
include running

/-- A run over however the report's parts are ordered: the look first. -/
theorem State.runOver_early : s.hygieneLook.testOverheat.compareComfort.RunOver := by
  have looked := State.hygieneLook_runOver sound hst clean (by rw [running]; exact nofun)
  exact (looked.keeps (State.keepsRun_testOverheat _) (moves_testOverheat _)).keeps (State.keepsRun_compareComfort _)
    (moves_compareComfort _)

/-- The look last: the run is completed, or has failed by the overheat and is found done. -/
theorem State.runOver_late : s.testOverheat.compareComfort.hygieneLook.RunOver := by
  have acted : Moves s s.testOverheat.compareComfort := (moves_testOverheat s).trans (moves_compareComfort _)
  refine State.hygieneLook_runOver (acted.keep State.HygieneSound.move sound) (acted.touches.store.trans hst) clean ?_
  obtain same | ⟨-, failed⟩ := (s.keepsRun_testOverheat).trans (State.keepsRun_compareComfort _)
  · rw [same, running]
    exact nofun
  · rw [failed]
    exact nofun

end

/-! ### The booking and what it decides -/

theorem moves_settleGranted (s : State) (p : PortId) (st : Store) (a : Nat) : Moves s (s.settleGranted p st a) := by
  unfold State.settleGranted
  split
  · exact .refl
  · next g hg =>
    split
    · next n hcls =>
      split
      · refine .single (.retire s p .completed fun _ k hk hh => ?_)
        rw [← Option.some.inj (hg.symm.trans hk), hcls] at hh
        cases hh
      · exact .refl
    · dsimp only
      split
      · exact (moves_arbiter s _).trans (moves_productiveDeposit _)
      · exact moves_arbiter s _
    · exact .refl

section
variable {s : State} {p : PortId} {g : Grant} (st : Store) (a : Nat) (hg : s.grant p = some g)
include hg

theorem State.settleGranted_normal {n : NormalGrant} (hcls : g.cls = .normal n) :
    s.settleGranted p st a = if n.budget ≤ g.delivered then s.retireHoldingSolar p .completed else s := by
  simp only [State.settleGranted, hg, hcls]

theorem State.settleGranted_mustTake {held : Bool} (hcls : g.cls = .mustTake held) : s.settleGranted p st a =
    let counted : State := { s with arbiter := { s.arbiter with mustTakeHeat := addTotal s.arbiter.mustTakeHeat a } }
    if st.cfg.productive ≤ a then counted.productiveDeposit else counted := by
  simp only [State.settleGranted, hg, hcls]

theorem State.settleGranted_hygiene (hcls : g.cls = .hygiene) : s.settleGranted p st a = s := by
  simp only [State.settleGranted, hg, hcls]

/-- The booking of a deposit, as one record update (R52). -/
theorem State.bookGranted_eq (c : PortConfig) : s.bookGranted p c a =
    { s with arbiter := { s.arbiter with
      grants := s.arbiter.grants.set p (some (g.book c a))
      ports := s.arbiter.ports.set p { s.port p with absorbed := addTotal (s.port p).absorbed a } } } := by
  have grants : s.arbiter.grants.get p = some g := hg
  rw [State.bookGranted, State.changeGrant, Arbiter.changeGrant, grants]
  rfl

end

theorem State.Names.book {s : State} {p : PortId} {g : Grant} (hg : s.grant p = some g) (c : PortConfig) (a : Nat) :
    (s.bookGranted p c a).Names p g.handle := .inl ⟨g.book c a, State.grant_bookGranted hg c a, rfl⟩

theorem State.HygieneSound.book {s : State} (h : s.HygieneSound) {p : PortId} {g : Grant} (hg : s.grant p = some g)
    (c : PortConfig) (a : Nat) : (s.bookGranted p c a).HygieneSound := by
  rw [State.bookGranted_eq a hg]
  refine h.of_at rfl Iff.rfl fun q => ?_
  have grant : State.grant
      { s with arbiter := { s.arbiter with
        grants := s.arbiter.grants.set p (some (g.book c a))
        ports := s.arbiter.ports.set p { s.port p with absorbed := addTotal (s.port p).absorbed a } } } q
        = if q = p then some (g.book c a) else s.grant q := PerPort.get_set _ _ _ _
  rw [State.HygieneAt, grant, State.HygieneAt]
  by_cases hq : q = p
  · simp [hq, hg, Grant.book]
  · simp [hq]

/-! ### The answer -/

section
variable {s t : State} {q : PortId} {body : LongBody} {b : List Byte}

theorem exec_deposit_matched (h : s.Taking ⟨20, BitVec.ofNat 3 q.number, .long body⟩ t) (good : LongBodyGood body b 5)
    {u v : State} {g : Grant} {e a : Nat}
    (hr : t.depositRequest (BitVec.ofNat 3 q.number) b = { state := u, answer := v.matchedAnswer q g e a }) :
    exec (.deposit (BitVec.ofNat 3 q.number) body) s =
      .next (u.sent (longAnswer 20 (BitVec.ofNat 3 q.number) 0 0 (v.matchedAnswer q g e a).body)) := by
  have sent := State.longRequest_port 20 (by decide) h good (State.depositRequest (BitVec.ofNat 3 q.number))
    (by rw [hr]; exact (by decide : 12 < 65534))
  rw [hr] at sent
  exact congrArg Host.Outcome.next sent

end

section
variable (s : State) (p : PortId) (c : PortConfig) (st : Store) (g : Grant) (sent : Nat)

theorem State.matchedDeposit_zero : s.matchedDeposit p c st g 0 sent =
    { state := s.restartLiveness p c, answer := (s.restartLiveness p c).matchedAnswer p g 0 0 } := rfl

theorem State.matchedDeposit_some {e : Nat} (h : e ≠ 0) : s.matchedDeposit p c st g e sent =
    let l := s.layIn c st e sent
    let r := ((l.1.bookGranted p c l.2).settleGranted p st l.2).depositReport g.isHygiene
    { state := r.2, answer := r.1.matchedAnswer p g e l.2 } := if_neg h

end

theorem State.depositReport_plain {s : State} {ofRun : Bool}
    (h : ¬(s.lookCompletesRun = true ∧ (s.reportSetsOverheat = true ∨ ofRun = true))) : s.depositReport ofRun =
      (s.testOverheat.compareComfort.hygieneLook, s.testOverheat.compareComfort.hygieneLook) := by
  rw [State.depositReport, if_neg (by simpa only [Bool.and_eq_true, Bool.or_eq_true] using h)]
  rfl

/-- The orders of a report whose look completes a run, and the state its answer shows (log entry 5). -/
theorem State.depositReport_chosen {s : State} {ofRun : Bool}
    (h : s.lookCompletesRun = true ∧ (s.reportSetsOverheat = true ∨ ofRun = true)) :
    let early := s.chosen.hygieneLook.testOverheat.compareComfort
    let acted := s.chosen.testOverheat.compareComfort
    s.depositReport ofRun = (early, early) ∨ s.depositReport ofRun = (acted.hygieneLook, acted.hygieneLook)
      ∨ s.depositReport ofRun = (acted, acted.hygieneLook) := by
  dsimp only
  rw [State.depositReport, if_pos (by simpa only [Bool.and_eq_true, Bool.or_eq_true] using h)]
  cases Config.lookOrder s.choices with
  | beforeArbiter => exact .inl rfl
  | beforeAnswer => exact .inr (.inl rfl)
  | afterAnswer => exact .inr (.inr rfl)

theorem State.hygieneNeed_of_store {s : State} {st : Store} (h : s.store = some st) : s.hygieneNeed = st.hygieneNeed := by
  rw [State.hygieneNeed, h]
  rfl

/-- Settles O37: the deposit laid in, booked and settled is the state spelled out; its report is plain or by one of its
orders, and the grant the handle names, or its end, is there to answer from in each. -/
theorem matchedDepositsAreBookedToTheGrant : Obligations.MatchedDepositsAreBookedToTheGrant := by
  intro s t q body b st c g h good hst hc hg hh ch f outcome left reply alive d a store booked laid settled completes
    overheats opened
  have request := State.depositRequest_current hst hc (State.matchHandle_current hg hh)
  have answer {v : State} (names : v.Names q g.handle) {e a need : Nat} (energy : f.energy = e)
      (hneed : v.hygieneNeed = need) :
      longAnswer 20 ch 0 0 (v.matchedAnswer q g e a).body = reply v a need := by
    subst energy
    have outcomeEq : v.grantOutcome q g.handle = outcome v := by
      cases hv : v.grant q with
      | some k =>
        rw [State.grantOutcome, names.matchHandle_current hv]
        simp only [outcome, hv]
        obtain ⟨handle, cls, delivered, supply, liveness⟩ := k
        obtain held | n | _ := cls
        · cases held <;> rfl
        · obtain ⟨budget, minRun, pending, suspended⟩ := n
          cases suspended <;> rfl
        · rfl
      | none =>
        obtain ⟨r, last, matched⟩ := names.matchHandle_lastEnd hv
        rw [State.grantOutcome, matched]
        simp only [outcome, hv, last]
    have leftEq : v.remainingBudget q g.handle = left v := by
      cases hv : v.grant q with
      | some k =>
        rw [State.remainingBudget, names.matchHandle_current hv]
        simp only [left, hv]
        rfl
      | none =>
        obtain ⟨r, -, matched⟩ := names.matchHandle_lastEnd hv
        rw [State.remainingBudget, matched]
        simp only [left, hv]
    have needEq : (if g.isHygiene then v.hygieneNeed else 0) = if g.cls = .hygiene then need else 0 := by
      rw [hneed]
      exact if_congr Grant.isHygiene_iff rfl rfl
    rw [State.matchedAnswer, outcomeEq, leftEq, needEq, depositBody, le_yesNo]
  have laidEq : (t.layIn c st f.energy f.supply).1.bookGranted q c a = laid := by
    rw [State.bookGranted_eq a (g := g) (by rw [State.layIn_eq]; exact hg), State.layIn_eq]
    rfl
  have laidGrant : laid.grant q = some booked := PerPort.get_set_same _ _ _
  have settledEq : laid.settleGranted q st a = settled := by
    cases hcls : g.cls with
    | normal n =>
      rw [State.settleGranted_normal st a laidGrant hcls]
      simp only [settled, hcls]
    | mustTake held =>
      rw [State.settleGranted_mustTake st a laidGrant hcls]
      simp only [settled, hcls]
      rfl
    | hygiene =>
      rw [State.settleGranted_hygiene st a laidGrant hcls]
      simp only [settled, hcls]
  have moved : Moves laid settled := settledEq ▸ moves_settleGranted laid q st a
  have settledStore : settled.store = some store := moved.touches.store
  have names : settled.Names q g.handle := State.Names.moves moved (.inl ⟨booked, laidGrant, rfl⟩)
  have completesIff : settled.lookCompletesRun = true ↔ completes := by
    rw [State.lookCompletesRun_iff settledStore, Store.clean_iff]
  have overheatsIff : settled.reportSetsOverheat = true ↔ overheats := State.reportSetsOverheat_iff settledStore
  have openIff : (settled.lookCompletesRun = true ∧ (settled.reportSetsOverheat = true ∨ g.isHygiene = true)) ↔ opened := by
    rw [completesIff, overheatsIff, Grant.isHygiene_iff]
  have deposit (he : f.energy ≠ 0) : t.depositRequest ch b =
      { state := (settled.depositReport g.isHygiene).2
        answer := (settled.depositReport g.isHygiene).1.matchedAnswer q g f.energy a } := by
    have settling : ((t.layIn c st f.energy f.supply).1.bookGranted q c a).settleGranted q st a = settled := by
      rw [laidEq, settledEq]
    refine (request.trans (State.matchedDeposit_some t q c st g f.supply he)).trans ?_
    rw [← settling]
    rfl
  have answered (he : f.energy ≠ 0) {u v : State} (hr : settled.depositReport g.isHygiene = (v, u))
      (m : Moves settled v) : exec (.deposit ch body) s = .next (u.sent (reply v a store.hygieneNeed)) := by
    have reported := deposit he
    rw [hr] at reported
    have done := exec_deposit_matched h good reported
    rw [answer (names.moves m) rfl (State.hygieneNeed_of_store (m.touches.store.trans settledStore))] at done
    exact done
  let x : State := settled.chosen
  have picked : Moves settled x := .single (.chosen settled)
  have report (z : State) : Moves z z.testOverheat.compareComfort := (moves_testOverheat z).trans (moves_compareComfort _)
  have plain (he : f.energy ≠ 0) (ho : ¬opened) :=
    answered he (State.depositReport_plain (mt openIff.mp ho)) ((report settled).trans (moves_hygieneLook _))
  have early : Moves settled x.hygieneLook.testOverheat.compareComfort :=
    (picked.trans (moves_hygieneLook x)).trans (report _)
  have acted : Moves settled x.testOverheat.compareComfort := picked.trans (report x)
  have late : Moves settled x.testOverheat.compareComfort.hygieneLook := acted.trans (moves_hygieneLook _)
  have chosen (he : f.energy ≠ 0) (ho : opened) :
      let early := x.hygieneLook.testOverheat.compareComfort
      let acted := x.testOverheat.compareComfort
      ∃ u v, (u = early ∧ v = early ∨ u = acted.hygieneLook ∧ v = acted.hygieneLook ∨ u = acted.hygieneLook ∧ v = acted)
        ∧ exec (.deposit ch body) s = .next (u.sent (reply v a store.hygieneNeed)) := by
    obtain hr | hr | hr := State.depositReport_chosen (openIff.mpr ho)
    · exact ⟨_, _, .inl ⟨rfl, rfl⟩, answered he hr early⟩
    · exact ⟨_, _, .inr (.inl ⟨rfl, rfl⟩), answered he hr late⟩
    · exact ⟨_, _, .inr (.inr ⟨rfl, rfl⟩), answered he hr acted⟩
  refine ⟨fun h0 => ?zero, plain, chosen, fun he hcomp sound => ?ended⟩
  case zero =>
    have aliveEq : t.restartLiveness q c = alive := by
      have grants : t.arbiter.grants.get q = some g := hg
      rw [State.restartLiveness, State.changeGrant, Arbiter.changeGrant, grants]
      rfl
    have aliveNames : alive.Names q g.handle := .inl ⟨_, PerPort.get_set_same _ _ _, rfl⟩
    rw [h0, State.matchedDeposit_zero, aliveEq] at request
    have done := exec_deposit_matched h good request
    rw [answer aliveNames h0 (State.hygieneNeed_of_store hst)] at done
    exact done
  case ended =>
    have laidSound : laid.HygieneSound := by
      rw [← laidEq]
      refine State.HygieneSound.book ?_ (g := g) ?_ c a <;> rw [State.layIn_eq]
      · exact sound
      · exact hg
    have settledSound : settled.HygieneSound := moved.keep State.HygieneSound.move laidSound
    have clean : store.clean = true := Store.clean_iff.mpr hcomp.2
    have finished {u : State} (ro : u.RunOver) (m : Moves settled u) {bytes : List Byte}
        (hx : exec (.deposit ch body) s = .next (u.sent bytes)) :
        ∃ u, exec (.deposit ch body) s = .next u ∧ u.hygiene = { state := .clear, limit := none }
          ∧ u.store = some store ∧ u.notices.flags.getLsbD Notice.hygieneDone.bit = true
          ∧ ∀ p h, u.grant p = some h → h.cls ≠ .hygiene :=
      ⟨_, hx, ro.1, m.touches.store.trans settledStore, ro.2, fun p k hk =>
        ro.noHygiene (m.keep State.HygieneSound.move settledSound) hk⟩
    by_cases ho : opened
    · obtain ⟨u, v, which, done⟩ := chosen he ho
      obtain ⟨rfl, -⟩ | which := which
      · exact finished (State.runOver_early (s := x) settledSound settledStore clean hcomp.1) early done
      · obtain rfl : u = x.testOverheat.compareComfort.hygieneLook := which.elim And.left And.left
        exact finished (State.runOver_late (s := x) settledSound settledStore clean hcomp.1) late done
    · exact finished (State.runOver_late settledSound settledStore clean hcomp.1)
        ((report settled).trans (moves_hygieneLook _)) (plain he ho)

end Sys2Proof.Machine
end
